-- ==== Sys2Proof/Word.lean ====
section
/-! DEFINITION. The word types of the avr-i2c TWI master block (spec/00_scope.md R7, R8). -/

namespace Sys2Proof

/-- A byte: unsigned, bit 0 the least significant (R8). Every register is one byte wide (R7). -/
abbrev Byte := BitVec 8

/-- An address of the register space, 16 bits (R7, R41). -/
abbrev Addr := BitVec 16

/-- A request word REQ, 16 bits (R66, R68). -/
abbrev ReqWord := BitVec 16

end Sys2Proof
end

