-- ==== Sys2Proof/Syntax.lean ====
section
/-! DEFINITION. The names of the block: directions, bus statuses, refusal reasons, the instructions (one constructor
per row of spec/opcode_table.json) and the labels of the sequencer. -/

namespace Sys2Proof

/-- "enumerated value, one of {Read, Write}; selects the low bit of the I2C address header" (R15, R71). -/
inductive Direction where
  | read
  | write
deriving DecidableEq, Repr, Inhabited

/-- The 13 named bus statuses (R77). -/
inductive BusStatus where
  | busError
  | startTransmitted
  | repeatedStartTransmitted
  | writeHeaderAcked
  | writeHeaderNacked
  | dataSentAcked
  | dataSentNacked
  | arbitrationLost
  | readHeaderAcked
  | readHeaderNacked
  | dataReceivedAckSent
  | dataReceivedNackSent
  | noInformation
deriving DecidableEq, Repr, Inhabited

/-- Why a request is refused (R122). -/
inductive Reason where
  /-- A request other than NEW before a NEW has returned. -/
  | noInstance
  /-- NEW with `f = 0`. -/
  | frequencyZero
  /-- NEW with a divisor outside 0..255. -/
  | frequencyOutOfRange
  /-- SEND_HEADER with `address > 0x7F`. -/
  | addressTooWide
  /-- REQ selector 0x9 to 0xF. -/
  | reservedOpcode
  /-- REQ with a nonzero `z` or nonzero unused operand bits. -/
  | reservedBits
deriving DecidableEq, Repr, Inhabited

/-- One constructor per row of spec/opcode_table.json: the nine requests (R67, R69) and the five command bytes (R74).
Side operands (`f` of NEW, `data` of SEND, `buf` of READ) are the caller's and stand in the state (R37, R68). -/
inductive Instr where
  /-- NEW, selector 0x0 (R93). -/
  | new
  /-- INIT, selector 0x1 (R97). -/
  | init
  /-- START, selector 0x2 (R100). -/
  | start
  /-- STOP, selector 0x3 (R103). -/
  | stop
  /-- SEND_HEADER, selector 0x4 (R107). The address is a byte here, so that the inductive form of a request can carry
  one of 0x80 or more, which is refused (R109, V6). -/
  | sendHeader (address : Byte) (direction : Direction)
  /-- SEND, selector 0x5 (R110). -/
  | send
  /-- READ, selector 0x6 (R112). -/
  | read (endWithNack : Bool)
  /-- DECODE, selector 0x7 (R85). -/
  | decode (raw : Byte)
  /-- AWAIT, selector 0x8 (R88). -/
  | await
  /-- CMD_ENABLE, control byte 0x04 (R74). -/
  | cmdEnable
  /-- CMD_START, control byte 0xA4 (R74). -/
  | cmdStart
  /-- CMD_STOP, control byte 0x94 (R74). -/
  | cmdStop
  /-- CMD_XFER, control byte 0x84 (R74). -/
  | cmdXfer
  /-- CMD_XFER_ACK, control byte 0xC4 (R74). -/
  | cmdXferAck
deriving DecidableEq, Repr, Inhabited

/-- The labels of the sequencer (R22). -/
inductive Label where
  | f0
  | i0 | i1 | i2
  | s0 | s1 | s2
  | p0 | p1
  | h0 | h1 | h2 | h3
  | t0 | t1 | t2 | t3
  | v0 | v1 | v2 | v3
  | x0
  | a0
deriving DecidableEq, Repr, Inhabited

end Sys2Proof
end

