-- ==== Sys2Proof/WellFormed.lean ====
section
/-! DEFINITION. Well-formed instructions: those an encoding exists for. -/

namespace Sys2Proof

/-- The one check: SEND_HEADER's address is a 7-bit value (R107, R109). Every other operand fills its field. -/
def Instr.wellFormed : Instr → Bool
  | .new => true
  | .init => true
  | .start => true
  | .stop => true
  | .sendHeader address _ => decide (address ≤ 0x7F#8)
  | .send => true
  | .read _ => true
  | .decode _ => true
  | .await => true
  | .cmdEnable => true
  | .cmdStart => true
  | .cmdStop => true
  | .cmdXfer => true
  | .cmdXferAck => true

end Sys2Proof
end

