-- ==== Sys2Proof/Decode.lean ====
section
/-! DEFINITION. The four formats (spec/30_encoding.md): the decoder of requests and command bytes, total and rejecting
by name; the status decoder; and AFTER them the encoders. -/

namespace Sys2Proof

/-! ## Header byte HDR -/

/-- Direction bit: Read is 1 and Write is 0 (R71). -/
def directionBit : Direction → Bool
  | .read => true
  | .write => false

/-- `decode_req`'s `opnd[0] = 1 ? Read : Write` (R70). -/
def directionOfBit (b : Bool) : Direction :=
  if b then .read else .write

/-- The header payload: `trunc_8(zext_8(address) << 1) | (direction = Read ? 0x01 : 0x00)` (R76). -/
def headerPayload (address : Byte) (direction : Direction) : Byte :=
  (address <<< 1) ||| (if directionBit direction then 0x01#8 else 0x00#8)

/-! ## Status byte STS -/

/-- The status decoder: the whole byte, unmasked, total (R77, R78, R79, R85). -/
def decodeStatus (raw : Byte) : Option BusStatus :=
  match raw.toNat with
  | 0x00 => some .busError
  | 0x08 => some .startTransmitted
  | 0x10 => some .repeatedStartTransmitted
  | 0x18 => some .writeHeaderAcked
  | 0x20 => some .writeHeaderNacked
  | 0x28 => some .dataSentAcked
  | 0x30 => some .dataSentNacked
  | 0x38 => some .arbitrationLost
  | 0x40 => some .readHeaderAcked
  | 0x48 => some .readHeaderNacked
  | 0x50 => some .dataReceivedAckSent
  | 0x58 => some .dataReceivedNackSent
  | 0xF8 => some .noInformation
  | _ => none

/-! ## Requests REQ -/

/-- `w[15:12]` (R68). -/
def reqOp (w : ReqWord) : BitVec 4 := w.extractLsb' 12 4
/-- `w[11:8]` (R68). -/
def reqZ (w : ReqWord) : BitVec 4 := w.extractLsb' 8 4
/-- `w[7:0]` (R68). -/
def reqOpnd (w : ReqWord) : Byte := w.extractLsb' 0 8

/-- A request without operand: its operand bits must be 0 (R70). -/
def noOperand (i : Instr) (opnd : Byte) : Except Reason Instr :=
  if opnd = 0x00#8 then .ok i else .error .reservedBits

/-- `decode_req`, total on every 16-bit word (R70). The `z` field is tested before the selector (V10). -/
def decodeReq (w : ReqWord) : Except Reason Instr :=
  if reqZ w ≠ 0#4 then .error .reservedBits
  else
    match (reqOp w).toNat with
    | 0x0 => noOperand .new (reqOpnd w)
    | 0x1 => noOperand .init (reqOpnd w)
    | 0x2 => noOperand .start (reqOpnd w)
    | 0x3 => noOperand .stop (reqOpnd w)
    | 0x4 => .ok (.sendHeader (((reqOpnd w).extractLsb' 1 7).setWidth 8) (directionOfBit ((reqOpnd w).getLsbD 0)))
    | 0x5 => noOperand .send (reqOpnd w)
    | 0x6 => if (reqOpnd w).extractLsb' 1 7 ≠ 0#7 then .error .reservedBits else .ok (.read ((reqOpnd w).getLsbD 0))
    | 0x7 => .ok (.decode (reqOpnd w))
    | 0x8 => noOperand .await (reqOpnd w)
    | _ => .error .reservedOpcode

/-! ## Command bytes CMD -/

/-- Why the decoder refuses bits. -/
inductive DecodeError where
  /-- A REQ word that R70 refuses, with its reason. -/
  | reserved (r : Reason)
  /-- A control byte that is none of the five of R74 ("no meaning is given to other control bytes", R81). -/
  | notACommand (b : Byte)
deriving DecidableEq, Repr

/-- The five control bytes the block writes (R74); every other byte is refused by name (R81). -/
def decodeCmd (b : Byte) : Except DecodeError Instr :=
  match b.toNat with
  | 0x04 => .ok .cmdEnable
  | 0xA4 => .ok .cmdStart
  | 0x94 => .ok .cmdStop
  | 0x84 => .ok .cmdXfer
  | 0xC4 => .ok .cmdXferAck
  | _ => .error (.notACommand b)

/-! ## Both formats as one -/

/-- The bits of an instruction, in the format of its row (R66). -/
inductive Code where
  | req (w : ReqWord)
  | cmd (b : Byte)
deriving DecidableEq, Repr

/-- The decoder, total on both formats. -/
def decodeCode : Code → Except DecodeError Instr
  | .req w =>
    match decodeReq w with
    | .ok i => .ok i
    | .error r => .error (.reserved r)
  | .cmd b => decodeCmd b

/-- What the decoder reads from a row of spec/opcode_table.json: a CMD row has 8 bits, a REQ row 16. Neither format is
stored in a memory, so there is no byte order (R44, R66); no other width exists (R66, R82). -/
def decodeTableWord (nbits w : Nat) : Option Instr :=
  match nbits with
  | 8 => (decodeCode (.cmd (BitVec.ofNat 8 w))).toOption
  | 16 => (decodeCode (.req (BitVec.ofNat 16 w))).toOption
  | _ => none

/-! ## Encoders -/

/-- The status byte of each named bus status (R77). -/
def encodeStatus : BusStatus → Byte
  | .busError => 0x00#8
  | .startTransmitted => 0x08#8
  | .repeatedStartTransmitted => 0x10#8
  | .writeHeaderAcked => 0x18#8
  | .writeHeaderNacked => 0x20#8
  | .dataSentAcked => 0x28#8
  | .dataSentNacked => 0x30#8
  | .arbitrationLost => 0x38#8
  | .readHeaderAcked => 0x40#8
  | .readHeaderNacked => 0x48#8
  | .dataReceivedAckSent => 0x50#8
  | .dataReceivedNackSent => 0x58#8
  | .noInformation => 0xF8#8

/-- A request word from its selector and operand, `z` = 0 (R68). -/
def reqWord (op : BitVec 4) (opnd : Byte) : ReqWord :=
  op ++ (0#4 ++ opnd)

/-- The encoder, from the tables of R69 and R74 and the operand layout of R68. -/
def encode : Instr → Code
  | .new => .req (reqWord 0x0#4 0x00#8)
  | .init => .req (reqWord 0x1#4 0x00#8)
  | .start => .req (reqWord 0x2#4 0x00#8)
  | .stop => .req (reqWord 0x3#4 0x00#8)
  | .sendHeader address direction => .req (reqWord 0x4#4 (headerPayload address direction))
  | .send => .req (reqWord 0x5#4 0x00#8)
  | .read endWithNack => .req (reqWord 0x6#4 (if endWithNack then 0x01#8 else 0x00#8))
  | .decode raw => .req (reqWord 0x7#4 raw)
  | .await => .req (reqWord 0x8#4 0x00#8)
  | .cmdEnable => .cmd 0x04#8
  | .cmdStart => .cmd 0xA4#8
  | .cmdStop => .cmd 0x94#8
  | .cmdXfer => .cmd 0x84#8
  | .cmdXferAck => .cmd 0xC4#8

end Sys2Proof
end

