-- ==== Sys2Proof/Config.lean ====
section
/-! DEFINITION. What the implementation fixes (spec/00_scope.md R7) and the free values: the draws of the
environment, each an opaque constant, so that no proof can rest on the value of one. -/

namespace Sys2Proof.Config

/-- `F_CPU`, the clock constant of the divisor formula (R7, D27). -/
def fCpu : Nat := 16000000

/-- Bit-rate register TWBR (R7, R28). -/
def twbrAddr : Addr := 0x00B8#16
/-- Status register TWSR (R7, R29). -/
def twsrAddr : Addr := 0x00B9#16
/-- Data register TWDR (R7, R30). -/
def twdrAddr : Addr := 0x00BB#16
/-- Control register TWCR (R7, R31). -/
def twcrAddr : Addr := 0x00BC#16

/-- Control bit mask interrupt-flag (R7, R73). -/
def maskIntFlag : Byte := 0x80#8
/-- Control bit mask ack-enable (R7, R73). -/
def maskAckEnable : Byte := 0x40#8
/-- Control bit mask start (R7, R73). -/
def maskStart : Byte := 0x20#8
/-- Control bit mask stop (R7, R73). -/
def maskStop : Byte := 0x10#8
/-- Control bit mask enable (R7, R73). -/
def maskEnable : Byte := 0x04#8

/-- The open parameter `FAIR_CMDS` (R7, R126, D5): the command bytes for which a termination claim may assume
that the peripheral completes. No value: a claim that uses it holds whatever it is. -/
opaque fairCmds : List Byte

/-- FREE VALUE (log 1): TWBR at power-up, "unspecified (draw)" (R39). -/
opaque powerUpTwbr : Byte
/-- FREE VALUE (log 1): the status byte at power-up (R39). -/
opaque powerUpTwsr : Byte
/-- FREE VALUE (log 1): TWDR at power-up (R39). -/
opaque powerUpTwdr : Byte
/-- FREE VALUE (log 1): the interrupt flag at power-up (R39). -/
opaque powerUpIntFlag : Bool

/-- FREE VALUE (log 3): does the peripheral take its completion step at this draw (R126)? -/
opaque completes : Nat → Bool
/-- FREE VALUE (log 3): the status byte of a completion (R125). -/
opaque statusDraw : Nat → Byte
/-- FREE VALUE (log 3): the data byte of a completion (R125). -/
opaque dataDraw : Nat → Byte
/-- FREE VALUE (log 4): bits 6:0 of a byte read from the control register (R32, R62). -/
opaque controlLow : Nat → BitVec 7
/-- FREE VALUE (log 4): TWDR after a write made while the interrupt flag is 0 (R59, R149). -/
opaque lostWrite : Nat → Byte

/-- FREE VALUE (log 8): the divisor of the driver object that `State.withFetchWord` supplies where there is none. -/
opaque placedDivisor : Byte

end Sys2Proof.Config
end

