-- ==== Sys2Proof/Machine/State.lean ====
section
/-! DEFINITION. The state of the block, as plain data (spec/10_state.md R17 to R40), the reasons a step can stop, and
the state at power-up (R39). -/

namespace Sys2Proof.Machine

/-- Sequencer position (R21). `run op label`: operation `op`, with its operands, executes and `label` is next. -/
inductive Seq where
  | ready
  | run (op : Instr) (label : Label)
  | faulted
  | refused
deriving DecidableEq, Repr

/-- The result of a request (R12, R24): `Ok`, `Err(s)`, or DECODE's option value. "None" is the absence of a result. -/
inductive Result where
  | ok
  | err (s : BusStatus)
  | decoded (s : Option BusStatus)
deriving DecidableEq, Repr

/-- The ghost protocol position (R38); no rule of the block reads it. -/
inductive Phase where
  | idle
  | startPending
  | headerPending
  | sendPending
  | receivePending
  | stopPending
deriving DecidableEq, Repr

/-- The scratch values of the running operation (R20). `status` is the local the spec writes `s`. -/
structure Locals where
  i : Nat
  n : Nat
  payload : Byte
  cmd : Byte
  expected : BusStatus
  raw : Byte
  status : Option BusStatus
deriving DecidableEq, Repr

/-- How a request is presented: as a REQ word (R68), or, for SEND_HEADER, as an inductive value whose address may be
too wide for a word to carry (R109, V6). -/
inductive Form where
  | word (w : ReqWord)
  | header (address : Byte) (direction : Direction)
deriving DecidableEq, Repr

/-- One call of the caller: the request and its side operands (R68); an operation takes the one that is its own. With
`onlyAfterOk` it is a later request of an expansion, which the caller issues only if the request before it did not
return `Err` (R84; log 7). -/
structure Call where
  form : Form
  freq : Nat
  data : List Byte
  buf : List Byte
  onlyAfterOk : Bool
deriving DecidableEq, Repr

/-- A move of the peripheral: its completion step with the status and data byte it delivers (R125), or none. -/
inductive PeripheralMove where
  | complete (status data : Byte)
  | wait
deriving DecidableEq, Repr

/-- The whole state: the fields of R18 in its order, the caller's operands (R37, R68), `faultAt` (R119), and the
model's own `returned`, `calls`, `script`, `tick` and `epoch`. -/
structure State where
  /-- The driver object's divisor; none until NEW (R19, R39). -/
  divisor : Option Byte
  /-- Sequencer position (R21). -/
  seq : Seq
  /-- Scratch of the running operation (R20). -/
  locals : Locals
  /-- Result of the last request that returned (R24). -/
  ret : Option Result
  /-- Fault mark: the raw status byte (R26). -/
  fault : Option Byte
  /-- "the operation and label where it occurred" (R119). -/
  faultAt : Option (Instr × Label)
  /-- Refusal mark (R27). -/
  refused : Option Reason
  /-- Bit-rate register, 0x00B8 (R28). -/
  twbr : Byte
  /-- Status register, 0x00B9, read view (R29). -/
  twsrRd : Byte
  /-- Last byte written to 0x00B9 (R29). -/
  twsrWr : Option Byte
  /-- Data register, 0x00BB (R30). -/
  twdr : Byte
  /-- Last byte written to 0x00BC (R31). -/
  twcrWr : Option Byte
  /-- Interrupt flag, bit 7 of 0x00BC on read (R33). -/
  intFlag : Bool
  /-- The peripheral has a command in flight (R35). -/
  busy : Bool
  /-- Command byte and TWDR at the time of the command write (R35). -/
  pending : Option (Byte × Byte)
  /-- Ghost protocol position (R38). -/
  phase : Phase
  /-- NEW's side operand `f` (R68). -/
  freq : Nat
  /-- SEND's byte sequence (R37). -/
  data : List Byte
  /-- READ's slots (R37). -/
  buf : List Byte
  /-- MODEL's own (log 6): the nonempty buffers of earlier READ requests, oldest first, as those requests left them. -/
  returned : List (List Byte)
  /-- MODEL's own (log 7): the requests the caller will issue, next first. -/
  calls : List Call
  /-- MODEL's own (log 3): the peripheral's next moves, as far as the outside has fixed them. -/
  script : List PeripheralMove
  /-- MODEL's own (log 4): the counter the free values are applied to. -/
  tick : Nat
  /-- MODEL's own (log 4): counts completions and control-register writes; the draw of a control read is applied to it. -/
  epoch : Nat
deriving DecidableEq, Repr

/-- Why the machine stops for good. -/
inductive Fault where
  /-- Raised by a step, or by a request handed to `exec`, when `seq = Faulted`: no step exists (R120). SAFE: the spec
  gives no step; `raw` is the fault mark. -/
  | terminal (raw : Option Byte)
  /-- Raised by an access to an address other than the four registers (R42). No step of the block makes one. SAFE. -/
  | notInRegisterMap (a : Addr)
  /-- Raised where the sequencer stands at a label that is not of its operation's row (R22). No run reaches it. SAFE. -/
  | noSuchLabel
  /-- Raised by SEND T0 or READ V3 at an index outside the caller's sequence (R37). No run reaches it. SAFE. -/
  | outsideCallerMemory (i : Nat)
deriving DecidableEq, Repr

/-- Why a step has no meaning. -/
inductive Refusal where
  /-- Raised by an arm of `exec` whose instruction has no meaning yet. SAFE. -/
  | notModelled (mnemonic : String)
  /-- Raised by a request handed to `exec` while another request runs: the caller is blocked and issues none (R17,
  R51). No step does it. SAFE. -/
  | callerBlocked
  /-- Raised by NEW at F0 with an admitted frequency when a driver object exists already: a second one has no move in
  the model (R96, R136; log 9). SAFE. -/
  | secondInstance
  /-- Raised by a step, or by a request handed to `exec`, when `seq = Refused`: no step exists (R123). SAFE. -/
  | terminal (reason : Option Reason)
deriving DecidableEq, Repr

/-- The outcome of a step of this machine. -/
abbrev StepOutcome := Host.Outcome State Fault Refusal

/-- Locals before any operation has set them (R20: "undefined before the operation sets them"; log 5). -/
def Locals.reset : Locals where
  i := 0
  n := 0
  payload := 0x00#8
  cmd := 0x00#8
  expected := .noInformation
  raw := 0x00#8
  status := none

/-- Power-up, before any request (R39). The four draws of R39 are free values (log 1). -/
def State.reset : State where
  divisor := none
  seq := .ready
  locals := Locals.reset
  ret := none
  fault := none
  faultAt := none
  refused := none
  twbr := Config.powerUpTwbr
  twsrRd := Config.powerUpTwsr
  twsrWr := none
  twdr := Config.powerUpTwdr
  twcrWr := none
  intFlag := Config.powerUpIntFlag
  busy := false
  pending := none
  phase := .idle
  freq := 0
  data := []
  buf := []
  returned := []
  calls := []
  script := []
  tick := 0
  epoch := 0

end Sys2Proof.Machine
end

