-- ==== Sys2Proof/Machine/Flags.lean ====
section
/-! DEFINITION. The control register's bits: the five command bytes from the masks, the test that makes a written byte
a command, the completion flag and the read view (spec R31 to R33, R61, R62, R73, R74). -/

namespace Sys2Proof.Machine

/-- CMD_ENABLE: "enable bit set, no others" (R74). -/
def cmdEnableByte : Byte := Config.maskEnable
/-- CMD_START: "interrupt-flag + start + enable bits" (R74). -/
def cmdStartByte : Byte := Config.maskIntFlag ||| Config.maskStart ||| Config.maskEnable
/-- CMD_STOP: "interrupt-flag + stop + enable bits" (R74). -/
def cmdStopByte : Byte := Config.maskIntFlag ||| Config.maskStop ||| Config.maskEnable
/-- CMD_XFER: "interrupt-flag + enable" (R74). -/
def cmdXferByte : Byte := Config.maskIntFlag ||| Config.maskEnable
/-- CMD_XFER_ACK: CMD_XFER "additionally asserting the ack-enable bit" (R74). -/
def cmdXferAckByte : Byte := Config.maskIntFlag ||| Config.maskAckEnable ||| Config.maskEnable

/-- A control write is a command when bit 7 is 1 (R61). -/
def isCommand (v : Byte) : Bool := v.getLsbD 7

/-- The completion flag the await step polls: bit 7 of a control read is `int_flag` (R33, R62), and the hold form of
the wait is stated in `int_flag` itself (R89). -/
def completionFlag (s : State) : Bool := s.intFlag

/-- The byte a control read returns: bit 7 is `int_flag`, bits 6:0 a draw (R32, R62). The draw changes
with a completion or a control write only, so a read may be repeated with the same result while none intervenes (R63). -/
def controlReadByte (s : State) : Byte := BitVec.cons (completionFlag s) (Config.controlLow s.epoch)

end Sys2Proof.Machine
end

