-- ==== Sys2Proof/Machine/Operands.lean ====
section
/-! DEFINITION. What the operations compute from their operands: the divisor (R93), the statuses they require and READ's
command byte (R107, R112), and the side operands a request takes (R68). -/

namespace Sys2Proof.Machine

/-- NEW's computation: `q = F_CPU / (2 f)` rounded down, the divisor `q - 8`, or the refusal (R93). -/
def divisorOf (f : Nat) : Except Reason Byte :=
  if f = 0 then .error .frequencyZero
  else if Config.fCpu / (2 * f) < 8 ∨ 255 < Config.fCpu / (2 * f) - 8 then .error .frequencyOutOfRange
  else .ok (BitVec.ofNat 8 (Config.fCpu / (2 * f) - 8))

/-- The status SEND_HEADER requires (R107). -/
def headerExpected : Direction → BusStatus
  | .read => .readHeaderAcked
  | .write => .writeHeaderAcked

/-- READ's command byte: ack-enable "if and only if end_with_nack is true" (R112). -/
def readCommand (endWithNack : Bool) : Byte :=
  if endWithNack then cmdXferAckByte else cmdXferByte

/-- The status READ requires in every slot (R112, R114). -/
def readExpected (endWithNack : Bool) : BusStatus :=
  if endWithNack then .dataReceivedAckSent else .dataReceivedNackSent

/-- `Ok` on the required status, `Err` of the one read otherwise (R100, R107). -/
def resultOf (required st : BusStatus) : Result :=
  if st = required then .ok else .err st

/-- The caller presents new slots to READ; those of the READ before it are the caller's again (R37; log 6). -/
def presentSlots (slots : List Byte) (s : State) : State :=
  { s with buf := slots, returned := if s.buf = [] then s.returned else s.returned ++ [s.buf] }

/-- Present the side operand that the request takes: `f` to NEW, `data` to SEND, `buf` to READ (R68). -/
def presentOperands (i : Instr) (c : Call) (s : State) : State :=
  match i with
  | .new => { s with freq := c.freq }
  | .send => { s with data := c.data }
  | .read _ => presentSlots c.buf s
  | _ => s

end Sys2Proof.Machine
end

