-- ==== Sys2Proof/Machine/Ops.lean ====
section
/-! DEFINITION. The named operations: register accesses by address (R55 to R62), sequencer moves, accepting a request
(R21, R122), refusing it (R123), the await (R89), the status check and THE FAULT (R87, R120), and returning (R24). -/

namespace Sys2Proof.Machine

/-- Go on with the next state of an outcome; a stop stays. -/
def andThen (o : StepOutcome) (k : State → StepOutcome) : StepOutcome :=
  match o with
  | .next s => k s
  | .fault f => .fault f
  | .refused r => .refused r

/-! ## Register accesses -/

/-- Effect of a write to the bit-rate register (R55). -/
def writeTwbr (v : Byte) (s : State) : State := { s with twbr := v }

/-- Effect of a write to the status register: "reset prescaler"; the read view stays (R58). -/
def writeTwsr (v : Byte) (s : State) : State := { s with twsrWr := some v }

/-- Effect of a write to the data register: with the flag 1 the byte, with the flag 0 a draw (R59, R149; log 4). -/
def writeTwdr (v : Byte) (s : State) : State :=
  if s.intFlag then { s with twdr := v }
  else { s with twdr := Config.lostWrite s.tick, tick := s.tick + 1 }

/-- Effect of a write to the control register; with bit 7 = 1 it is a command (R61). -/
def writeTwcr (v : Byte) (s : State) : State :=
  if isCommand v then
    { s with
      twcrWr := some v, intFlag := false, busy := true, pending := some (v, s.twdr), epoch := s.epoch + 1 }
  else { s with twcrWr := some v, epoch := s.epoch + 1 }

/-- `MemWrite(a, 1, v)` (R10, R43). An address outside the map faults (R42). -/
def memWrite (a : Addr) (v : Byte) (s : State) : StepOutcome :=
  if a = Config.twbrAddr then .next (writeTwbr v s)
  else if a = Config.twsrAddr then .next (writeTwsr v s)
  else if a = Config.twdrAddr then .next (writeTwdr v s)
  else if a = Config.twcrAddr then .next (writeTwcr v s)
  else .fault (.notInRegisterMap a)

/-- `MemRead(a, 1)` (R10, R43): no read has a side effect, so it answers the byte alone (R56, R57, R60, R62). -/
def memRead (a : Addr) (s : State) : Except Fault Byte :=
  if a = Config.twbrAddr then .ok s.twbr
  else if a = Config.twsrAddr then .ok s.twsrRd
  else if a = Config.twdrAddr then .ok s.twdr
  else if a = Config.twcrAddr then .ok (controlReadByte s)
  else .error (.notInRegisterMap a)

/-! ## Sequencer moves -/

/-- The labels of each operation, in order (R22); a command byte is no operation of the sequencer. -/
def labelsOf : Instr → List Label
  | .new => [.f0]
  | .init => [.i0, .i1, .i2]
  | .start => [.s0, .s1, .s2]
  | .stop => [.p0, .p1]
  | .sendHeader _ _ => [.h0, .h1, .h2, .h3]
  | .send => [.t0, .t1, .t2, .t3]
  | .read _ => [.v0, .v1, .v2, .v3]
  | .decode _ => [.x0]
  | .await => [.a0]
  | .cmdEnable => []
  | .cmdStart => []
  | .cmdStop => []
  | .cmdXfer => []
  | .cmdXferAck => []

/-- Move to a label of the running operation (R23). -/
def goto (op : Instr) (l : Label) (s : State) : State := { s with seq := .run op l }

/-- `return`: the result and `seq <- Ready` (R11, R23, R24). -/
def finish (r : Option Result) (s : State) : State := { s with ret := r, seq := .ready }

/-- The ghost phase (R38). -/
def setPhase (p : Phase) (s : State) : State := { s with phase := p }

/-- Refuse a request: the mark and `seq <- Refused`, nothing else (R27, R123). -/
def refuse (r : Reason) (s : State) : State := { s with refused := some r, seq := .refused }

/-- Where the sequencer stands, for the fault's record (R119). -/
def position (s : State) : Option (Instr × Label) :=
  match s.seq with
  | .run op l => some (op, l)
  | _ => none

/-- THE FAULT, `raise UnknownStatus(raw)`: the mark, where it occurred, `seq <- Faulted`; `ret` is not written and
nothing is saved (R26, R119, R120, R130). There is no return from it (R121, R131). -/
def raiseUnknownStatus (raw : Byte) (s : State) : State :=
  { s with fault := some raw, faultAt := position s, seq := .faulted }

/-- Acceptance: `seq <- Run(op, first label)` and `ret` is cleared (R21). -/
def enter (op : Instr) (first : Label) (s : State) : State :=
  { s with seq := .run op first, ret := none }

/-- Accept a request other than NEW: refused `NoInstance` before a NEW has returned (R122, R139); otherwise `setup`
is what the operation computes before its first label. -/
def accept (op : Instr) (first : Label) (setup : State → State) (s : State) : StepOutcome :=
  match s.divisor with
  | none => .next (refuse .noInstance s)
  | some _ => .next (setup (enter op first s))

/-- Whose turn it is when `op` is to execute: in Ready the request is considered, in `Run(op, label)` the label's step
is taken, and otherwise no step of `op` exists (R21, R51, R120, R123). -/
def turn (op : Instr) (s : State) (onRequest : StepOutcome) (onLabel : Label → StepOutcome) : StepOutcome :=
  match s.seq with
  | .ready => onRequest
  | .run running l => if running = op then onLabel l else .refused .callerBlocked
  | .faulted => .fault (.terminal s.fault)
  | .refused => .refused (.terminal s.refused)

/-! ## Steps the operations share -/

/-- Write the control register and move on to the await (R61, R129). -/
def issue (v : Byte) (op : Instr) (next : Label) (s : State) : StepOutcome :=
  andThen (memWrite Config.twcrAddr v s) fun s' => .next (goto op next s')

/-- `await`: one poll of the control register; with the flag 1 the operation goes on, with the flag 0 the poll changes
nothing and the sequencer stays (R88, R89, R91). -/
def awaitStep (k : State → StepOutcome) (s : State) : StepOutcome :=
  if completionFlag s then k s else .next s

/-- Keep the last status byte and its decoding in the locals (R20, R87). -/
def noteStatus (raw : Byte) (s : State) : State :=
  { s with locals := { s.locals with raw := raw, status := decodeStatus raw } }

/-- `check_status()`: read the status register, decode; absence faults before any comparison (R87, R129). -/
def checkStatus (k : BusStatus → State → StepOutcome) (s : State) : StepOutcome :=
  match memRead Config.twsrAddr s with
  | .error f => .fault f
  | .ok raw =>
    match decodeStatus raw with
    | none => .next (raiseUnknownStatus raw (noteStatus raw s))
    | some st => k st (noteStatus raw s)

/-- `i <- i + 1` (R110, R112). -/
def advanceIndex (s : State) : State :=
  { s with locals := { s.locals with i := s.locals.i + 1 } }

end Sys2Proof.Machine
end

