-- ==== Sys2Proof/Machine/Commands.lean ====
section
/-! DEFINITION. The command bytes CMD: each is the write of its byte to the control register (R61, R74). -/

namespace Sys2Proof.Machine

/-- CMD_ENABLE 0x04: enables the peripheral, commands nothing (R61, R97). -/
def execCmdEnable (s : State) : StepOutcome := memWrite Config.twcrAddr cmdEnableByte s

/-- CMD_START 0xA4 (R61, R100). -/
def execCmdStart (s : State) : StepOutcome := memWrite Config.twcrAddr cmdStartByte s

/-- CMD_STOP 0x94 (R61, R103). -/
def execCmdStop (s : State) : StepOutcome := memWrite Config.twcrAddr cmdStopByte s

/-- CMD_XFER 0x84: transmits the data register, or receives without ack-enable (R61, R75). -/
def execCmdXfer (s : State) : StepOutcome := memWrite Config.twcrAddr cmdXferByte s

/-- CMD_XFER_ACK 0xC4: receives with ack-enable (R61, R112). -/
def execCmdXferAck (s : State) : StepOutcome := memWrite Config.twcrAddr cmdXferAckByte s

end Sys2Proof.Machine
end

