-- ==== Sys2Proof/Machine/Conditions.lean ====
section
/-! DEFINITION. The bus conditions: START (R100 to R102) and STOP (R103 to R106). -/

namespace Sys2Proof.Machine

/-- START (R100): succeeds on StartTransmitted alone (R101). -/
def execStart (s : State) : StepOutcome :=
  turn .start s (accept .start .s0 (setPhase .startPending) s) fun
    | .s0 => issue cmdStartByte .start .s1 s
    | .s1 => awaitStep (fun s' => .next (goto .start .s2 s')) s
    | .s2 => checkStatus (fun st s' => .next (finish (some (resultOf .startTransmitted st)) s')) s
    | _ => .fault .noSuchLabel

/-- STOP (R103): reads no status, always `Ok` (R104); its return sets the ghost phase to Idle (R38). -/
def execStop (s : State) : StepOutcome :=
  turn .stop s (accept .stop .p0 (setPhase .stopPending) s) fun
    | .p0 => issue cmdStopByte .stop .p1 s
    | .p1 => awaitStep (fun s' => .next (setPhase .idle (finish (some .ok) s'))) s
    | _ => .fault .noSuchLabel

end Sys2Proof.Machine
end

