-- ==== Sys2Proof/Machine/Configuration.lean ====
section
/-! DEFINITION. Construction and initialisation: NEW (R93 to R96) and INIT (R97 to R99). -/

namespace Sys2Proof.Machine

/-- NEW: computes the divisor or refuses; touches no register (R93). A second one with an admitted frequency has no
move in the model (R19, R96, R136; log 9). -/
def execNew (s : State) : StepOutcome :=
  turn .new s (.next (enter .new .f0 s)) fun
    | .f0 =>
      match divisorOf s.freq with
      | .error r => .next (refuse r s)
      | .ok d =>
        match s.divisor with
        | none => .next (finish none { s with divisor := some d })
        | some _ => .refused .secondInstance
    | _ => .fault .noSuchLabel

/-- INIT: writes TWSR, TWBR, TWCR in that order, no wait (R97, R98). -/
def execInit (s : State) : StepOutcome :=
  turn .init s (accept .init .i0 id s) fun
    | .i0 => andThen (memWrite Config.twsrAddr 0x00#8 s) fun s' => .next (goto .init .i1 s')
    | .i1 =>
      match s.divisor with
      | none => .next (refuse .noInstance s)
      | some d => andThen (memWrite Config.twbrAddr d s) fun s' => .next (goto .init .i2 s')
    | .i2 => andThen (memWrite Config.twcrAddr cmdEnableByte s) fun s' => .next (finish none s')
    | _ => .fault .noSuchLabel

end Sys2Proof.Machine
end

