-- ==== Sys2Proof/Machine/Status.lean ====
section
/-! DEFINITION. The two leaf components as requests: DECODE (R85, R86) and AWAIT (R88 to R92). -/

namespace Sys2Proof.Machine

/-- DECODE: `ret <- decode(raw)`, no register, no fault on absence (R85). -/
def execDecode (raw : Byte) (s : State) : StepOutcome :=
  turn (.decode raw) s (accept (.decode raw) .x0 id s) fun
    | .x0 => .next (finish (some (.decoded (decodeStatus raw))) s)
    | _ => .fault .noSuchLabel

/-- AWAIT: the await step, then back to Ready with no result (R88, R92). -/
def execAwait (s : State) : StepOutcome :=
  turn .await s (accept .await .a0 id s) fun
    | .a0 => awaitStep (fun s' => .next (finish none s')) s
    | _ => .fault .noSuchLabel

end Sys2Proof.Machine
end

