-- ==== Sys2Proof/Machine/Transfers.lean ====
section
/-! DEFINITION. The transfers: SEND_HEADER (R107 to R109), SEND (R110, R111), READ (R112 to R115). -/

namespace Sys2Proof.Machine

/-- SEND_HEADER's preamble: payload and required status (R107). -/
def headerSetup (address : Byte) (direction : Direction) (s : State) : State :=
  setPhase .headerPending
    { s with
      locals :=
        { s.locals with payload := headerPayload address direction, expected := headerExpected direction } }

/-- SEND_HEADER (R107). An address of 0x80 or more is refused before any access (R109, R122), when the request is
considered (log 10). -/
def execSendHeader (address : Byte) (direction : Direction) (s : State) : StepOutcome :=
  turn (.sendHeader address direction) s
    (match s.divisor with
      | none => .next (refuse .noInstance s)
      | some _ =>
        if 0x7F#8 < address then .next (refuse .addressTooWide s)
        else accept (.sendHeader address direction) .h0 (headerSetup address direction) s)
    fun
    | .h0 =>
      andThen (memWrite Config.twdrAddr s.locals.payload s) fun s' =>
        .next (goto (.sendHeader address direction) .h1 s')
    | .h1 => issue cmdXferByte (.sendHeader address direction) .h2 s
    | .h2 => awaitStep (fun s' => .next (goto (.sendHeader address direction) .h3 s')) s
    | .h3 => checkStatus (fun st s' => .next (finish (some (resultOf s'.locals.expected st)) s')) s
    | _ => .fault .noSuchLabel

/-- SEND's preamble: `i <- 0; n <- length(data)` (R110). -/
def sendSetup (s : State) : State :=
  setPhase .sendPending { s with locals := { s.locals with i := 0, n := s.data.length } }

/-- SEND (R110): stops at the first byte whose status is not DataSentAcked (R111); an empty sequence returns `Ok` with
no access. -/
def execSend (s : State) : StepOutcome :=
  turn .send s (accept .send .t0 sendSetup s) fun
    | .t0 =>
      if s.locals.i = s.locals.n then .next (finish (some .ok) s)
      else
        match s.data[s.locals.i]? with
        | none => .fault (.outsideCallerMemory s.locals.i)
        | some b => andThen (memWrite Config.twdrAddr b s) fun s' => .next (goto .send .t1 s')
    | .t1 => issue cmdXferByte .send .t2 s
    | .t2 => awaitStep (fun s' => .next (goto .send .t3 s')) s
    | .t3 =>
      checkStatus
        (fun st s' =>
          if st = .dataSentAcked then .next (goto .send .t0 (advanceIndex s'))
          else .next (finish (some (.err st)) s'))
        s
    | _ => .fault .noSuchLabel

/-- READ's preamble: `i`, `n`, the command byte and the required status, once for the whole call (R112, R113). -/
def readSetup (endWithNack : Bool) (s : State) : State :=
  setPhase .receivePending
    { s with
      locals :=
        { s.locals with
          i := 0, n := s.buf.length, cmd := readCommand endWithNack, expected := readExpected endWithNack } }

/-- `buf[i] <- v` (R112). -/
def storeSlot (v : Byte) (s : State) : State := { s with buf := s.buf.set s.locals.i v }

/-- READ (R112): a slot is written only after its status matched; a failing slot and every later one keep their
contents (R115). -/
def execRead (endWithNack : Bool) (s : State) : StepOutcome :=
  turn (.read endWithNack) s (accept (.read endWithNack) .v0 (readSetup endWithNack) s) fun
    | .v0 =>
      if s.locals.i = s.locals.n then .next (finish (some .ok) s)
      else issue s.locals.cmd (.read endWithNack) .v1 s
    | .v1 => awaitStep (fun s' => .next (goto (.read endWithNack) .v2 s')) s
    | .v2 =>
      checkStatus
        (fun st s' =>
          if st = s'.locals.expected then .next (goto (.read endWithNack) .v3 s')
          else .next (finish (some (.err st)) s'))
        s
    | .v3 =>
      match memRead Config.twdrAddr s with
      | .error f => .fault f
      | .ok v =>
        if s.locals.i < s.buf.length then .next (goto (.read endWithNack) .v0 (advanceIndex (storeSlot v s)))
        else .fault (.outsideCallerMemory s.locals.i)
    | _ => .fault .noSuchLabel

end Sys2Proof.Machine
end

