-- ==== Sys2Proof/Machine/Dispatch.lean ====
section
/-! DEFINITION. One arm per instruction. For a request, `exec` takes the request's next step: in Ready it considers the
request, in `Run(request, label)` it takes the label's step. For a command byte it is the control-register write. -/

namespace Sys2Proof.Machine

def exec (i : Instr) (s : State) : Host.Outcome State Fault Refusal :=
  match i with
  | .new => Sys2Proof.Machine.execNew s
  | .init => Sys2Proof.Machine.execInit s
  | .start => Sys2Proof.Machine.execStart s
  | .stop => Sys2Proof.Machine.execStop s
  | .sendHeader address direction => Sys2Proof.Machine.execSendHeader address direction s
  | .send => Sys2Proof.Machine.execSend s
  | .read endWithNack => Sys2Proof.Machine.execRead endWithNack s
  | .decode raw => Sys2Proof.Machine.execDecode raw s
  | .await => Sys2Proof.Machine.execAwait s
  | .cmdEnable => Sys2Proof.Machine.execCmdEnable s
  | .cmdStart => Sys2Proof.Machine.execCmdStart s
  | .cmdStop => Sys2Proof.Machine.execCmdStop s
  | .cmdXfer => Sys2Proof.Machine.execCmdXfer s
  | .cmdXferAck => Sys2Proof.Machine.execCmdXferAck s

end Sys2Proof.Machine
end

