-- ==== Sys2Proof/Machine/Peripheral.lean ====
section
/-! DEFINITION. The peripheral, the second agent: its completion step (R125) and the choice whether it takes it (R126). -/

namespace Sys2Proof.Machine

/-- The completion step `complete(s, d)` (R125). -/
def complete (status data : Byte) (s : State) : State :=
  { s with
    twsrRd := status, twdr := data, intFlag := true, busy := false, pending := none, epoch := s.epoch + 1 }

/-- The move the peripheral makes before the sequencer's turn, and the state with that choice used up. Enabled exactly
while `busy` (R52, R125): the next scripted move if there is one, else a free value decides, under no law and with no
guarantee that a completion ever comes (R125, R126; log 3). -/
def peripheralChoice (s : State) : PeripheralMove × State :=
  if s.busy then
    match s.script with
    | m :: rest => (m, { s with script := rest })
    | [] =>
      (if Config.completes s.tick then .complete (Config.statusDraw s.tick) (Config.dataDraw s.tick) else .wait,
        { s with tick := s.tick + 1 })
  else (.wait, s)

end Sys2Proof.Machine
end

