-- ==== Sys2Proof/Machine/Fetch.lean ====
section
/-! DEFINITION. Taking the caller's next request (R21, R51, R70), the sequencer's step and the machine's step, and
placing an instruction where the next step executes it. -/

namespace Sys2Proof.Machine

/-- The request a call presents: a REQ word is decoded (R70); the inductive form is one already (D9). -/
def Call.request (c : Call) : Except Reason Instr :=
  match c.form with
  | .word w => decodeReq w
  | .header address direction => .ok (.sendHeader address direction)

/-- The requests the caller has still to issue: after an `Err`, the rest of an expansion is not issued (R84). -/
def upcoming (s : State) : List Call :=
  match s.ret with
  | some (.err _) => s.calls.dropWhile Call.onlyAfterOk
  | _ => s.calls

/-- Consider the caller's next request: a reserved encoding is refused (R81, R122); otherwise its side operand is
presented and the request executes. -/
def takeCall (c : Call) (rest : List Call) (s : State) : StepOutcome :=
  match c.request with
  | .error r => .next (refuse r { s with calls := rest })
  | .ok i => exec i (presentOperands i c { s with calls := rest })

/-- The sequencer's step (R21, R23). With no request to consider the block stays in Ready and only the
caller's unissued requests are dropped (R84); from Faulted and Refused
there is no step (R120, R123). -/
def sequencerStep (s : State) : StepOutcome :=
  match s.seq with
  | .ready =>
    match upcoming s with
    | [] => .next { s with calls := [] }
    | c :: rest => takeCall c rest s
  | .run op l => if (labelsOf op).contains l then exec op s else .fault .noSuchLabel
  | .faulted => .fault (.terminal s.fault)
  | .refused => .refused (.terminal s.refused)

/-- One step of the machine: the peripheral's completion if it makes its move now, else the sequencer's step (R52). -/
def machineStep (s : State) : StepOutcome :=
  match peripheralChoice s with
  | (.complete status data, s') => .next (complete status data s')
  | (.wait, s') => sequencerStep s'

/-! ## Placing an instruction (log 8) -/

/-- No command in flight, so that the next step is the sequencer's. -/
def quiet (s : State) : State := { s with busy := false, pending := none }

/-- A driver object exists: the one there is, else one whose divisor is a free value. -/
def withDriver (s : State) : State := { s with divisor := some (s.divisor.getD Config.placedDivisor) }

/-- A REQ word becomes the caller's next request, with empty side operands; for any selector but NEW's a driver object
exists. -/
def placeRequest (w : ReqWord) (s : State) : State :=
  let s' := quiet (if reqOp w = 0x0#4 then s else withDriver s)
  { s' with seq := .ready, calls := { form := .word w, freq := 0, data := [], buf := [], onlyAfterOk := false } :: s'.calls }

/-- The sequencer stands at a label whose step writes the control register. -/
def placeAt (op : Instr) (l : Label) (s : State) : State := enter op l (quiet (withDriver s))

/-- A CMD byte becomes the byte the sequencer's next step writes to the control register (R74), in an operation that
writes it; any other byte is no command and places nothing. -/
def placeCommand (b : Byte) (s : State) : State :=
  match decodeCmd b with
  | .ok .cmdEnable => placeAt .init .i2 s
  | .ok .cmdStart => placeAt .start .s0 (setPhase .startPending s)
  | .ok .cmdStop => placeAt .stop .p0 (setPhase .stopPending s)
  | .ok .cmdXfer => placeAt (.sendHeader 0x00#8 .write) .h1 (headerSetup 0x00#8 .write s)
  | .ok .cmdXferAck => placeAt (.read true) .v0 (readSetup true (presentSlots [0x00#8] s))
  | _ => s

/-- Place the bits of a row of spec/opcode_table.json: 8 bits are a CMD byte, else a REQ word. -/
def placeWord (nbits w : Nat) (s : State) : State :=
  match nbits with
  | 8 => placeCommand (BitVec.ofNat 8 w) s
  | _ => placeRequest (BitVec.ofNat 16 w) s

end Sys2Proof.Machine
end

