-- ==== Sys2Proof/Machine/Step.lean ====
section
/-! DEFINITION. The machine's step, and placing one instruction where it is executed next. -/

namespace Sys2Proof.Machine

/-- One step: the completion of the command in flight, or one step of the sequencer (R17, R52). -/
def step (s : State) : Host.Outcome State Fault Refusal := machineStep s

/-- `s` with the given bits where `step` takes its next instruction (log 8). -/
def State.withFetchWord (s : State) (nbits w : Nat) : State := placeWord nbits w s

end Sys2Proof.Machine
end

