-- ==== Sys2Proof/Machine/Pseudo.lean ====
section
/-! DEFINITION. The pseudo-instructions: fixed expansions into requests, each a list of calls of the caller (R84, D32).
None is an operation of the block. An expansion stops at the first request that returns `Err` (`stopping`), unless the
caller chooses otherwise (`goingOn`); a fault and a refusal end every run. -/

namespace Sys2Proof.Machine

/-- A call of a request word with the side operands given. -/
def wordCall (w : ReqWord) (data buf : List Byte) : Call where
  form := .word w
  freq := 0
  data := data
  buf := buf
  onlyAfterOk := false

/-- A call of SEND_HEADER with the address as the caller gives it, so that one of 0x80 or more reaches its refusal
(R109). -/
def headerCall (address : Byte) (direction : Direction) : Call where
  form := .header address direction
  freq := 0
  data := []
  buf := []
  onlyAfterOk := false

/-- The expansion stops at the first request that returns `Err`: each request but the first is issued only if the one
before it did not (R84). -/
def stopping (expansion : List Call) : List Call :=
  match expansion with
  | [] => []
  | first :: later => first :: later.map fun c => { c with onlyAfterOk := true }

/-- The caller chooses to go on after an `Err` (R84). -/
def goingOn (expansion : List Call) : List Call :=
  expansion.map fun c => { c with onlyAfterOk := false }

/-- `WRITE_TXN a, [b...]` (R84). -/
def writeTxn (address : Byte) (bytes : List Byte) : List Call :=
  stopping
    [wordCall 0x2000#16 [] [], headerCall address .write, wordCall 0x5000#16 bytes [], wordCall 0x3000#16 [] []]

/-- `READ_TXN_ACK a, n`, with the caller's `n` slots (R84). -/
def readTxnAck (address : Byte) (slots : List Byte) : List Call :=
  stopping
    [wordCall 0x2000#16 [] [], headerCall address .read, wordCall 0x6001#16 [] slots, wordCall 0x3000#16 [] []]

/-- `READ_ACK_ALL_BUT_LAST n`, `n ≥ 1`, with the caller's `n` slots: the first READ is omitted when `n = 1` (R84). -/
def readAckAllButLast (slots : List Byte) : List Call :=
  match slots.dropLast with
  | [] => [wordCall 0x6000#16 [] slots]
  | front => stopping [wordCall 0x6001#16 [] front, wordCall 0x6000#16 [] (slots.drop front.length)]

end Sys2Proof.Machine
end

