-- ==== Sys2Proof/Safety.lean ====
section
/-! DEFINITION. The terms claims use: the register access of each label, the registers as one value, the invariant of
the block, when a request has ended, and the fairness a termination claim may assume. -/

namespace Sys2Proof.Machine

/-! ## Register accesses -/

/-- A register access of the block (R10). -/
inductive Access where
  | write (a : Addr) (v : Byte)
  | read (a : Addr)
deriving DecidableEq, Repr

/-- The address an access goes to. -/
def Access.addr : Access → Addr
  | .write a _ => a
  | .read a => a

/-- The one register access of the label the sequencer stands at, if it makes one (R22, R43, R52). -/
def accessAt (s : State) : Option Access :=
  match s.seq with
  | .run _ .i0 => some (.write 0x00B9#16 0x00#8)
  | .run _ .i1 => s.divisor.map (Access.write 0x00B8#16)
  | .run _ .i2 => some (.write 0x00BC#16 0x04#8)
  | .run _ .s0 => some (.write 0x00BC#16 0xA4#8)
  | .run _ .s1 => some (.read 0x00BC#16)
  | .run _ .s2 => some (.read 0x00B9#16)
  | .run _ .p0 => some (.write 0x00BC#16 0x94#8)
  | .run _ .p1 => some (.read 0x00BC#16)
  | .run _ .h0 => some (.write 0x00BB#16 s.locals.payload)
  | .run _ .h1 => some (.write 0x00BC#16 0x84#8)
  | .run _ .h2 => some (.read 0x00BC#16)
  | .run _ .h3 => some (.read 0x00B9#16)
  | .run _ .t0 => if s.locals.i = s.locals.n then none else s.data[s.locals.i]?.map (Access.write 0x00BB#16)
  | .run _ .t1 => some (.write 0x00BC#16 0x84#8)
  | .run _ .t2 => some (.read 0x00BC#16)
  | .run _ .t3 => some (.read 0x00B9#16)
  | .run _ .v0 => if s.locals.i = s.locals.n then none else some (.write 0x00BC#16 s.locals.cmd)
  | .run _ .v1 => some (.read 0x00BC#16)
  | .run _ .v2 => some (.read 0x00B9#16)
  | .run _ .v3 => some (.read 0x00BB#16)
  | .run _ .a0 => some (.read 0x00BC#16)
  | _ => none

/-- What an access does to the state: a write its effect, a read nothing (R55 to R63). -/
def performAccess (x : Option Access) (s : State) : StepOutcome :=
  match x with
  | some (.write a v) => memWrite a v s
  | some (.read _) => .next s
  | none => .next s

/-- The peripheral's side of the state: the four registers, the flag, and the command in flight. -/
structure Registers where
  twbr : Byte
  twsrRd : Byte
  twsrWr : Option Byte
  twdr : Byte
  twcrWr : Option Byte
  intFlag : Bool
  busy : Bool
  pending : Option (Byte × Byte)
deriving DecidableEq, Repr

/-- The registers of a state. -/
def registers (s : State) : Registers where
  twbr := s.twbr
  twsrRd := s.twsrRd
  twsrWr := s.twsrWr
  twdr := s.twdr
  twcrWr := s.twcrWr
  intFlag := s.intFlag
  busy := s.busy
  pending := s.pending

/-! ## The invariant -/

/-- The sequencer stands at the await of a command it wrote (R129); AWAIT's own `A0` writes none. -/
def Seq.awaitsCommand : Seq → Bool
  | .run _ .s1 => true
  | .run _ .p1 => true
  | .run _ .h2 => true
  | .run _ .t2 => true
  | .run _ .v1 => true
  | _ => false

/-- The sequencer stands behind a completed await of a command (R147, R148). -/
def Seq.afterCompletion : Seq → Bool
  | .run _ .s2 => true
  | .run _ .h3 => true
  | .run _ .t3 => true
  | .run _ .v2 => true
  | .run _ .v3 => true
  | _ => false

/-- The sequencer stands at a label of its operation's row (R22). -/
def Seq.labelled : Seq → Prop
  | .run op l => l ∈ labelsOf op
  | _ => True

/-- A request is executing. -/
def Seq.running : Seq → Bool
  | .run _ _ => true
  | _ => false

/-- The command an operation writes (R74, R80). -/
def commandOf : Instr → Option Byte
  | .start => some 0xA4#8
  | .stop => some 0x94#8
  | .sendHeader _ _ => some 0x84#8
  | .send => some 0x84#8
  | .read endWithNack => some (if endWithNack then 0xC4#8 else 0x84#8)
  | _ => none

/-- The phase that accepting an operation sets (R38). -/
def phaseOf : Instr → Option Phase
  | .start => some .startPending
  | .stop => some .stopPending
  | .sendHeader _ _ => some .headerPending
  | .send => some .sendPending
  | .read _ => some .receivePending
  | _ => none

/-- The locals hold what the running operation's preamble gave them, and the index is inside the caller's sequence
wherever it is used (R20, R107, R110, R112). -/
def localsHeld (s : State) : Prop :=
  match s.seq with
  | .run (.sendHeader address direction) _ =>
    address ≤ 0x7F#8 ∧ s.locals.payload = headerPayload address direction ∧
      s.locals.expected = (match direction with | .read => .readHeaderAcked | .write => .writeHeaderAcked)
  | .run .send l => s.locals.n = s.data.length ∧ if l = .t0 then s.locals.i ≤ s.locals.n else s.locals.i < s.locals.n
  | .run (.read endWithNack) l =>
    s.locals.n = s.buf.length ∧
      s.locals.cmd = (if endWithNack then 0xC4#8 else 0x84#8) ∧
      s.locals.expected = (if endWithNack then .dataReceivedAckSent else .dataReceivedNackSent) ∧
      if l = .v0 then s.locals.i ≤ s.locals.n else s.locals.i < s.locals.n
  | _ => True

/-- The running operation's ghost phase and command byte are its own (R38, R80). -/
def operationHeld (s : State) : Prop :=
  match s.seq with
  | .run op _ =>
    (∀ p, phaseOf op = some p → s.phase = p) ∧ (s.seq.awaitsCommand = true → s.twcrWr = commandOf op)
  | _ => True

/-- The invariant of the block. -/
structure Inv (s : State) : Prop where
  /-- The position is one of R22's table. -/
  labelled : s.seq.labelled
  /-- A command is in flight only at its await, with the flag 0 (R129). -/
  busy_awaits : s.busy = true → s.seq.awaitsCommand = true
  /-- At the await of a command, either it is in flight or the flag is 1 (R61, R125). -/
  await_flag : s.seq.awaitsCommand = true → s.intFlag = !s.busy
  /-- Behind an await the flag is 1 (R147). -/
  after_flag : s.seq.afterCompletion = true → s.intFlag = true
  /-- `pending` is the command byte last written and the data register, exactly while `busy` (R35, R61). -/
  pending_busy : s.pending = if s.busy then s.twcrWr.map (fun v => (v, s.twdr)) else none
  /-- The block writes only five bytes to the control register (R31, R74). -/
  control_bytes : ∀ v, s.twcrWr = some v → v ∈ [0x04#8, 0xA4#8, 0x94#8, 0x84#8, 0xC4#8]
  /-- The block writes only 0x00 to the status register (R29). -/
  status_bytes : ∀ v, s.twsrWr = some v → v = 0x00#8
  /-- The fault mark stands exactly in Faulted (R26). -/
  fault_mark : s.fault.isSome = true ↔ s.seq = .faulted
  /-- The mark is an absent status code (R26, R78). -/
  fault_absent : ∀ raw, s.fault = some raw → decodeStatus raw = none
  /-- The refusal mark stands exactly in Refused (R27). -/
  refusal_mark : s.refused.isSome = true ↔ s.seq = .refused
  /-- While a request executes there is no result (R24). -/
  no_result : s.seq.running = true → s.ret = none
  /-- Before NEW has returned no other request executes (R139). -/
  driver : s.divisor = none → s.seq = .ready ∨ s.seq = .run .new .f0 ∨ s.seq = .refused
  /-- The running operation's phase and command (R38, R80). -/
  operation : operationHeld s
  /-- The running operation's locals (R20). -/
  locals_held : localsHeld s

/-! ## Runs -/

/-- No request executes: it returned, faulted or was refused (R119). -/
def Seq.atRest : Seq → Bool
  | .run _ _ => false
  | _ => true

/-- From `s` the machine comes to a state in which no request executes. -/
def ComesToRest (s : State) : Prop :=
  ∃ k t, core.run k s = .next t ∧ Seq.atRest t.seq = true

/-- The fairness a termination claim may assume (R126): in the run from `s`, a command of `cmds` that is in flight is
completed at some later step. -/
def FairRun (cmds : List Byte) (s : State) : Prop :=
  ∀ k t v d, core.run k s = .next t → t.busy = true → t.pending = some (v, d) → v ∈ cmds →
    ∃ j u, core.run j t = .next u ∧ u.busy = false

end Sys2Proof.Machine
end

