-- ==== Sys2Proof/Certificates/Slice0/Obligations.lean ====
section
/-! DEFINITION. The statements for the provers, from the numbered rules of spec/. OBLIGATIONS.json lists them in this
order. Where one speaks of the model's own fields (`calls`, `script`, `tick`, `epoch`) its docstring says so; `upcoming s`
is the caller's requests still to be issued (log 7). -/

open Sys2Proof Sys2Proof.Machine

/-! ## Encodings -/

/-- A few request words and command bytes decode as V6, V10 and R74 say (sanity). -/
def Obligations.WordsDecodeAsListed : Prop :=
  decodeReq 0x0000#16 = .ok .new ∧ decodeReq 0x1000#16 = .ok .init ∧ decodeReq 0x2000#16 = .ok .start ∧
  decodeReq 0x3000#16 = .ok .stop ∧ decodeReq 0x40A1#16 = .ok (.sendHeader 0x50#8 .read) ∧
  decodeReq 0x4078#16 = .ok (.sendHeader 0x3C#8 .write) ∧ decodeReq 0x5000#16 = .ok .send ∧
  decodeReq 0x6001#16 = .ok (.read true) ∧ decodeReq 0x7009#16 = .ok (.decode 0x09#8) ∧
  decodeReq 0x8000#16 = .ok .await ∧ decodeReq 0x9100#16 = .error .reservedBits ∧
  decodeReq 0xF0FF#16 = .error .reservedOpcode ∧ decodeCmd 0xA4#8 = .ok .cmdStart ∧
  decodeCmd 0x94#8 = .ok .cmdStop ∧ decodeCmd 0x84#8 = .ok .cmdXfer ∧ decodeCmd 0xC4#8 = .ok .cmdXferAck ∧
  decodeCmd 0x04#8 = .ok .cmdEnable

/-- Decoding the encoding of a well-formed instruction gives it back, for every instruction and operand. -/
def Obligations.DecodeOfEncode : Prop :=
  ∀ i : Instr, i.wellFormed = true → decodeCode (encode i) = .ok i

/-- Bits that decode are the encoding of what they decode to, which is well-formed: each accepted word has one
meaning and no accepted word is read with a bit dropped. -/
def Obligations.EncodeOfDecode : Prop :=
  ∀ (c : Code) (i : Instr), decodeCode c = .ok i → encode i = c ∧ i.wellFormed = true

/-- Exactly which request words are refused, and with which reason (R70). -/
def Obligations.RequestWordsRefused : Prop :=
  ∀ w : ReqWord,
    (decodeReq w = .error .reservedBits ↔
      w.extractLsb' 8 4 ≠ 0#4 ∨
        (w.extractLsb' 12 4 = 6#4 ∧ w.extractLsb' 1 7 ≠ 0#7) ∨
        (w.extractLsb' 12 4 ∈ [0#4, 1#4, 2#4, 3#4, 5#4, 8#4] ∧ w.extractLsb' 0 8 ≠ 0#8)) ∧
    (decodeReq w = .error .reservedOpcode ↔ w.extractLsb' 8 4 = 0#4 ∧ 9#4 ≤ w.extractLsb' 12 4) ∧
    (∀ r, decodeReq w = .error r → r = .reservedBits ∨ r = .reservedOpcode)

/-- The status table (R77): thirteen bytes are named, each status by one byte and every status by some; every other byte
is absent, so every byte with a nonzero value in bits 2:0 (R78). -/
def Obligations.StatusTable : Prop :=
  decodeStatus 0x00#8 = some .busError ∧ decodeStatus 0x08#8 = some .startTransmitted ∧
  decodeStatus 0x10#8 = some .repeatedStartTransmitted ∧ decodeStatus 0x18#8 = some .writeHeaderAcked ∧
  decodeStatus 0x20#8 = some .writeHeaderNacked ∧ decodeStatus 0x28#8 = some .dataSentAcked ∧
  decodeStatus 0x30#8 = some .dataSentNacked ∧ decodeStatus 0x38#8 = some .arbitrationLost ∧
  decodeStatus 0x40#8 = some .readHeaderAcked ∧ decodeStatus 0x48#8 = some .readHeaderNacked ∧
  decodeStatus 0x50#8 = some .dataReceivedAckSent ∧ decodeStatus 0x58#8 = some .dataReceivedNackSent ∧
  decodeStatus 0xF8#8 = some .noInformation ∧
  (∀ raw : Byte,
    raw ∉ [0x00#8, 0x08#8, 0x10#8, 0x18#8, 0x20#8, 0x28#8, 0x30#8, 0x38#8, 0x40#8, 0x48#8, 0x50#8, 0x58#8, 0xF8#8] →
      decodeStatus raw = none) ∧
  (∀ (a b : Byte) (st : BusStatus), decodeStatus a = some st → decodeStatus b = some st → a = b) ∧
  (∀ st : BusStatus, ∃ raw, decodeStatus raw = some st) ∧
  (∀ raw : Byte, raw.extractLsb' 0 3 ≠ 0#3 → decodeStatus raw = none)

/-- The header byte: the 7-bit address in bits 7:1, the direction in bit 0 (Read 1, Write 0); an address of 0x80 or
more is refused (R76, R109, R122; D8). That it is refused in the step that considers the request, with the result and
the phase unchanged, is the model's reading of R107, R122 and R123 (log 10). -/
def Obligations.HeaderByte : Prop :=
  (∀ (a : Byte) (d : Direction), a ≤ 0x7F#8 →
    ((headerPayload a d).extractLsb' 1 7).setWidth 8 = a ∧
      ((headerPayload a d).getLsbD 0 = true ↔ d = .read)) ∧
  headerPayload 0x50#8 .write = 0xA0#8 ∧ headerPayload 0x50#8 .read = 0xA1#8 ∧
  (∀ (a : Byte) (d : Direction) (s : State) (v : Byte), 0x80#8 ≤ a → s.seq = .ready → s.divisor = some v →
    exec (.sendHeader a d) s = .next { s with refused := some .addressTooWide, seq := .refused })

/-! ## Register accesses -/

/-- A write to the status register is recorded and leaves the read view; a write to the control register is recorded
and, with bit 7 = 1, is a command (R58, which the spec marks as its decision D28, and R61, its decision D4). `epoch` is
the model's own counter of control writes (log 4). -/
def Obligations.StatusAndControlWrites : Prop :=
  ∀ (v : Byte) (s : State),
    memWrite 0x00B9#16 v s = .next { s with twsrWr := some v } ∧
    (v.getLsbD 7 = true →
      memWrite 0x00BC#16 v s =
        .next
          { s with
            twcrWr := some v, intFlag := false, busy := true, pending := some (v, s.twdr), epoch := s.epoch + 1 }) ∧
    (v.getLsbD 7 = false → memWrite 0x00BC#16 v s = .next { s with twcrWr := some v, epoch := s.epoch + 1 })

/-- A write to the bit-rate register sets it; a write to the data register sets it while the flag is 1, and leaves a
free value there, whatever was written, while it is 0 (R55, R59). -/
def Obligations.BitRateAndDataWrites : Prop :=
  ∀ (v : Byte) (s : State),
    memWrite 0x00B8#16 v s = .next { s with twbr := v } ∧
    (s.intFlag = true → memWrite 0x00BB#16 v s = .next { s with twdr := v }) ∧
    (s.intFlag = false →
      memWrite 0x00BB#16 v s = .next { s with twdr := Config.lostWrite s.tick, tick := s.tick + 1 })

/-- What each register reads as (R56, R57, R60, R62). -/
def Obligations.RegisterReads : Prop :=
  ∀ s : State,
    memRead 0x00B8#16 s = .ok s.twbr ∧ memRead 0x00B9#16 s = .ok s.twsrRd ∧ memRead 0x00BB#16 s = .ok s.twdr ∧
    ∃ r : Byte, memRead 0x00BC#16 s = .ok r ∧ r.getLsbD 7 = s.intFlag

/-- Writing the same byte twice to 0x00B8, to 0x00B9, or, with the flag 1, to 0x00BB leaves the state that writing it
once leaves (R63). -/
def Obligations.WritesTwiceAsOnce : Prop :=
  ∀ (a : Addr) (v : Byte) (s t : State),
    a = 0x00B8#16 ∨ a = 0x00B9#16 ∨ (a = 0x00BB#16 ∧ s.intFlag = true) →
    memWrite a v s = .next t → memWrite a v t = .next t

/-- No other address is accessed (R42, R43): no step does it, and every access of a label goes to one of the four
registers. That an access elsewhere, if there were one, faults by the name notInRegisterMap is the model's choice
(log 15). -/
def Obligations.OnlyFourAddresses : Prop :=
  (∀ (a : Addr) (v : Byte) (s : State), a ∉ [0x00B8#16, 0x00B9#16, 0x00BB#16, 0x00BC#16] →
    memWrite a v s = .fault (.notInRegisterMap a) ∧ memRead a s = .error (.notInRegisterMap a)) ∧
  (∀ (s : State) (a : Addr), step s ≠ .fault (.notInRegisterMap a)) ∧
  (∀ (s : State) (x : Access), accessAt s = some x → x.addr ∈ [0x00B8#16, 0x00B9#16, 0x00BB#16, 0x00BC#16])

/-- A label's step changes the registers as its one access does, and in no other way (R22, R43, R49, R52). -/
def Obligations.OneAccessPerStep : Prop :=
  ∀ (op : Instr) (l : Label) (s t : State), s.seq = .run op l → l ∈ labelsOf op → exec op s = .next t →
    ∃ u, performAccess (accessAt s) s = .next u ∧ registers t = registers u

/-! ## The peripheral -/

/-- The completion step is enabled exactly while `busy` and does what R125 (the spec's decisions D5, D19) says, for every
status and data byte. MODEL'S CHOICE (log 3): the move is read from `script`, where the outside has fixed none free
values decide whether it comes and what it delivers, and it is made before the sequencer's turn; `script`, `tick` and
`epoch` are the model's own (logs 3, 4). -/
def Obligations.CompletionStep : Prop :=
  ∀ s : State,
    (s.busy = false → step s = sequencerStep s) ∧
    (∀ (st d : Byte) (ms : List PeripheralMove), s.busy = true → s.script = .complete st d :: ms →
      step s =
        .next
          { s with
            twsrRd := st, twdr := d, intFlag := true, busy := false, pending := none,
            script := ms, epoch := s.epoch + 1 }) ∧
    (∀ ms : List PeripheralMove, s.busy = true → s.script = .wait :: ms →
      step s = sequencerStep { s with script := ms }) ∧
    (s.busy = true → s.script = [] →
      step s =
        if Config.completes s.tick then
          .next
            { s with
              twsrRd := Config.statusDraw s.tick, twdr := Config.dataDraw s.tick, intFlag := true, busy := false,
              pending := none, tick := s.tick + 1, epoch := s.epoch + 1 }
        else sequencerStep { s with tick := s.tick + 1 })

/-! ## Each instruction, label by label -/

/-- NEW (R93): acceptance, the two refusals, and the divisor. -/
def Obligations.NewSteps : Prop :=
  ∀ s : State,
    (s.seq = .ready → exec .new s = .next { s with seq := .run .new .f0, ret := none }) ∧
    (s.seq = .run .new .f0 → s.freq = 0 →
      exec .new s = .next { s with refused := some .frequencyZero, seq := .refused }) ∧
    (s.seq = .run .new .f0 → s.freq ≠ 0 →
      16000000 / (2 * s.freq) < 8 ∨ 263 < 16000000 / (2 * s.freq) →
      exec .new s = .next { s with refused := some .frequencyOutOfRange, seq := .refused }) ∧
    (s.seq = .run .new .f0 → s.freq ≠ 0 →
      8 ≤ 16000000 / (2 * s.freq) → 16000000 / (2 * s.freq) ≤ 263 → s.divisor = none →
      exec .new s =
        .next
          { s with
            divisor := some (BitVec.ofNat 8 (16000000 / (2 * s.freq) - 8)), seq := .ready, ret := none })

/-- MODEL'S CHOICE (log 9): a NEW with an admitted frequency where a driver object exists already has no move (R96,
R136); the model stops it by name. -/
def Obligations.SecondNewStops : Prop :=
  ∀ (s : State) (d : Byte), s.seq = .run .new .f0 → s.freq ≠ 0 →
    8 ≤ 16000000 / (2 * s.freq) → 16000000 / (2 * s.freq) ≤ 263 → s.divisor = some d →
    exec .new s = .refused .secondInstance

/-- The admitted frequencies, which the spec derives from R93 (R94; C2, D7), and the divisor law (R95). -/
def Obligations.AdmittedFrequencies : Prop :=
  ∀ f : Nat,
    16000000 / (2 * f) = 8000000 / f ∧
    ((∃ d, divisorOf f = .ok d) ↔ 30304 ≤ f ∧ f ≤ 1000000) ∧
    (∀ d, divisorOf f = .ok d → d.toNat = 16000000 / (2 * f) - 8) ∧
    (8 * (2 * f) ≤ 16000000 ∧ 16000000 ≤ 263 * (2 * f) ↔ 30419 ≤ f ∧ f ≤ 1000000) ∧
    (30304 ≤ f → f ≤ 30418 → divisorOf f = .ok 255#8)

/-- INIT, label by label (R97). -/
def Obligations.InitSteps : Prop :=
  ∀ (s : State) (d : Byte), s.divisor = some d →
    (s.seq = .ready → exec .init s = .next { s with seq := .run .init .i0, ret := none }) ∧
    (s.seq = .run .init .i0 → exec .init s = .next { s with seq := .run .init .i1, twsrWr := some 0x00#8 }) ∧
    (s.seq = .run .init .i1 → exec .init s = .next { s with seq := .run .init .i2, twbr := d }) ∧
    (s.seq = .run .init .i2 →
      exec .init s =
        .next { s with seq := .ready, ret := none, twcrWr := some 0x04#8, epoch := s.epoch + 1 })

/-- The registers after INIT's three steps (R99, which the spec derives from R97, R55, R58, R61). -/
def Obligations.InitLeaves : Prop :=
  ∀ (s : State) (d : Byte), s.divisor = some d → s.busy = false → s.seq = .run .init .i0 →
    ∃ t, core.run 3 s = .next t ∧ t.seq = .ready ∧ t.twbr = d ∧ t.twsrWr = some 0x00#8 ∧ t.twcrWr = some 0x04#8 ∧
      t.twsrRd = s.twsrRd ∧ t.twdr = s.twdr ∧ t.intFlag = s.intFlag

/-- START, label by label (R100). -/
def Obligations.StartSteps : Prop :=
  ∀ s : State,
    (∀ d, s.divisor = some d → s.seq = .ready →
      exec .start s = .next { s with seq := .run .start .s0, ret := none, phase := .startPending }) ∧
    (s.seq = .run .start .s0 →
      exec .start s =
        .next
          { s with
            seq := .run .start .s1, twcrWr := some 0xA4#8, intFlag := false, busy := true,
            pending := some (0xA4#8, s.twdr), epoch := s.epoch + 1 }) ∧
    (s.seq = .run .start .s1 → s.intFlag = true → exec .start s = .next { s with seq := .run .start .s2 }) ∧
    (∀ st, s.seq = .run .start .s2 → decodeStatus s.twsrRd = some st →
      exec .start s =
        .next
          { s with
            seq := .ready, ret := some (if st = .startTransmitted then .ok else .err st),
            locals := { s.locals with raw := s.twsrRd, status := some st } })

/-- STOP, label by label (R103); its return sets the ghost phase to Idle (R38). -/
def Obligations.StopSteps : Prop :=
  ∀ s : State,
    (∀ d, s.divisor = some d → s.seq = .ready →
      exec .stop s = .next { s with seq := .run .stop .p0, ret := none, phase := .stopPending }) ∧
    (s.seq = .run .stop .p0 →
      exec .stop s =
        .next
          { s with
            seq := .run .stop .p1, twcrWr := some 0x94#8, intFlag := false, busy := true,
            pending := some (0x94#8, s.twdr), epoch := s.epoch + 1 }) ∧
    (s.seq = .run .stop .p1 → s.intFlag = true →
      exec .stop s = .next { s with seq := .ready, ret := some .ok, phase := .idle })

/-- SEND_HEADER, label by label (R107). At `H0` the data register takes the payload, or a free value while the flag is
0 (R59). -/
def Obligations.SendHeaderSteps : Prop :=
  ∀ (a : Byte) (dir : Direction) (s : State),
    (∀ d, s.divisor = some d → s.seq = .ready → a ≤ 0x7F#8 →
      exec (.sendHeader a dir) s =
        .next
          { s with
            seq := .run (.sendHeader a dir) .h0, ret := none, phase := .headerPending,
            locals :=
              { s.locals with
                payload := (a <<< 1) ||| (if dir = .read then 0x01#8 else 0x00#8),
                expected := if dir = .read then .readHeaderAcked else .writeHeaderAcked } }) ∧
    (s.seq = .run (.sendHeader a dir) .h0 → s.intFlag = true →
      exec (.sendHeader a dir) s =
        .next { s with seq := .run (.sendHeader a dir) .h1, twdr := s.locals.payload }) ∧
    (s.seq = .run (.sendHeader a dir) .h0 → s.intFlag = false →
      exec (.sendHeader a dir) s =
        .next
          { s with seq := .run (.sendHeader a dir) .h1, twdr := Config.lostWrite s.tick, tick := s.tick + 1 }) ∧
    (s.seq = .run (.sendHeader a dir) .h1 →
      exec (.sendHeader a dir) s =
        .next
          { s with
            seq := .run (.sendHeader a dir) .h2, twcrWr := some 0x84#8, intFlag := false, busy := true,
            pending := some (0x84#8, s.twdr), epoch := s.epoch + 1 }) ∧
    (s.seq = .run (.sendHeader a dir) .h2 → s.intFlag = true →
      exec (.sendHeader a dir) s = .next { s with seq := .run (.sendHeader a dir) .h3 }) ∧
    (∀ st, s.seq = .run (.sendHeader a dir) .h3 → decodeStatus s.twsrRd = some st →
      exec (.sendHeader a dir) s =
        .next
          { s with
            seq := .ready, ret := some (if st = s.locals.expected then .ok else .err st),
            locals := { s.locals with raw := s.twsrRd, status := some st } })

/-- SEND, label by label (R110). -/
def Obligations.SendSteps : Prop :=
  ∀ s : State,
    (∀ d, s.divisor = some d → s.seq = .ready →
      exec .send s =
        .next
          { s with
            seq := .run .send .t0, ret := none, phase := .sendPending,
            locals := { s.locals with i := 0, n := s.data.length } }) ∧
    (s.seq = .run .send .t0 → s.locals.i = s.locals.n →
      exec .send s = .next { s with seq := .ready, ret := some .ok }) ∧
    (∀ b, s.seq = .run .send .t0 → s.locals.i ≠ s.locals.n → s.data[s.locals.i]? = some b → s.intFlag = true →
      exec .send s = .next { s with seq := .run .send .t1, twdr := b }) ∧
    (∀ b, s.seq = .run .send .t0 → s.locals.i ≠ s.locals.n → s.data[s.locals.i]? = some b → s.intFlag = false →
      exec .send s =
        .next { s with seq := .run .send .t1, twdr := Config.lostWrite s.tick, tick := s.tick + 1 }) ∧
    (s.seq = .run .send .t1 →
      exec .send s =
        .next
          { s with
            seq := .run .send .t2, twcrWr := some 0x84#8, intFlag := false, busy := true,
            pending := some (0x84#8, s.twdr), epoch := s.epoch + 1 }) ∧
    (s.seq = .run .send .t2 → s.intFlag = true → exec .send s = .next { s with seq := .run .send .t3 }) ∧
    (s.seq = .run .send .t3 → s.twsrRd = 0x28#8 →
      exec .send s =
        .next
          { s with
            seq := .run .send .t0,
            locals := { s.locals with raw := 0x28#8, status := some .dataSentAcked, i := s.locals.i + 1 } }) ∧
    (∀ st, s.seq = .run .send .t3 → decodeStatus s.twsrRd = some st → st ≠ .dataSentAcked →
      exec .send s =
        .next
          { s with
            seq := .ready, ret := some (.err st), locals := { s.locals with raw := s.twsrRd, status := some st } })

/-- READ, label by label (R112). -/
def Obligations.ReadSteps : Prop :=
  ∀ (e : Bool) (s : State),
    (∀ d, s.divisor = some d → s.seq = .ready →
      exec (.read e) s =
        .next
          { s with
            seq := .run (.read e) .v0, ret := none, phase := .receivePending,
            locals :=
              { s.locals with
                i := 0, n := s.buf.length, cmd := if e then 0xC4#8 else 0x84#8,
                expected := if e then .dataReceivedAckSent else .dataReceivedNackSent } }) ∧
    (s.seq = .run (.read e) .v0 → s.locals.i = s.locals.n →
      exec (.read e) s = .next { s with seq := .ready, ret := some .ok }) ∧
    (s.seq = .run (.read e) .v0 → s.locals.i ≠ s.locals.n → s.locals.cmd.getLsbD 7 = true →
      exec (.read e) s =
        .next
          { s with
            seq := .run (.read e) .v1, twcrWr := some s.locals.cmd, intFlag := false, busy := true,
            pending := some (s.locals.cmd, s.twdr), epoch := s.epoch + 1 }) ∧
    (s.seq = .run (.read e) .v1 → s.intFlag = true →
      exec (.read e) s = .next { s with seq := .run (.read e) .v2 }) ∧
    (s.seq = .run (.read e) .v2 → decodeStatus s.twsrRd = some s.locals.expected →
      exec (.read e) s =
        .next
          { s with
            seq := .run (.read e) .v3,
            locals := { s.locals with raw := s.twsrRd, status := some s.locals.expected } }) ∧
    (∀ st, s.seq = .run (.read e) .v2 → decodeStatus s.twsrRd = some st → st ≠ s.locals.expected →
      exec (.read e) s =
        .next
          { s with
            seq := .ready, ret := some (.err st), locals := { s.locals with raw := s.twsrRd, status := some st } }) ∧
    (s.seq = .run (.read e) .v3 → s.locals.i < s.buf.length →
      exec (.read e) s =
        .next
          { s with
            seq := .run (.read e) .v0, buf := s.buf.set s.locals.i s.twdr,
            locals := { s.locals with i := s.locals.i + 1 } })

/-- DECODE (R85, R86): the option value of the whole byte, no other field of the state changes; thirteen of the 256
bytes give a named status. -/
def Obligations.DecodeSteps : Prop :=
  (∀ (raw : Byte) (s : State),
    (∀ d, s.divisor = some d → s.seq = .ready →
      exec (.decode raw) s = .next { s with seq := .run (.decode raw) .x0, ret := none }) ∧
    (s.seq = .run (.decode raw) .x0 →
      exec (.decode raw) s = .next { s with seq := .ready, ret := some (.decoded (decodeStatus raw)) })) ∧
  ((List.range 256).filter fun k => (decodeStatus (BitVec.ofNat 8 k)).isSome).length = 13

/-- AWAIT (R21, R88, R92): with the flag 1 it returns with no result and changes nothing but the position. That with the
flag 0 a poll is a step that changes nothing is the spinning reading of R89 (the spec's decision D25), which the model
takes (log 16). -/
def Obligations.AwaitSteps : Prop :=
  ∀ s : State,
    (∀ d, s.divisor = some d → s.seq = .ready →
      exec .await s = .next { s with seq := .run .await .a0, ret := none }) ∧
    (s.seq = .run .await .a0 → s.intFlag = true → exec .await s = .next { s with seq := .ready, ret := none }) ∧
    (s.seq = .run .await .a0 → s.intFlag = false → exec .await s = .next s)

/-- The five command bytes (R61, R74): the four with bit 7 = 1 start a command, 0x04 does not. -/
def Obligations.CommandBytes : Prop :=
  ∀ s : State,
    exec .cmdEnable s = .next { s with twcrWr := some 0x04#8, epoch := s.epoch + 1 } ∧
    exec .cmdStart s =
      .next
        { s with
          twcrWr := some 0xA4#8, intFlag := false, busy := true, pending := some (0xA4#8, s.twdr),
          epoch := s.epoch + 1 } ∧
    exec .cmdStop s =
      .next
        { s with
          twcrWr := some 0x94#8, intFlag := false, busy := true, pending := some (0x94#8, s.twdr),
          epoch := s.epoch + 1 } ∧
    exec .cmdXfer s =
      .next
        { s with
          twcrWr := some 0x84#8, intFlag := false, busy := true, pending := some (0x84#8, s.twdr),
          epoch := s.epoch + 1 } ∧
    exec .cmdXferAck s =
      .next
        { s with
          twcrWr := some 0xC4#8, intFlag := false, busy := true, pending := some (0xC4#8, s.twdr),
          epoch := s.epoch + 1 }

/-! ## Faults, refusals, holds -/

/-- An unknown status byte at one of the four status steps: the terminal fault, with nothing else written but the
locals that hold the byte (R26, R87, R119, R120). -/
def Obligations.UnknownStatusFaults : Prop :=
  ∀ (op : Instr) (l : Label) (s : State),
    (op = .start ∧ l = .s2) ∨ (∃ a d, op = .sendHeader a d ∧ l = .h3) ∨ (op = .send ∧ l = .t3) ∨
        (∃ e, op = .read e ∧ l = .v2) →
    s.seq = .run op l → decodeStatus s.twsrRd = none →
    exec op s =
      .next
        { s with
          fault := some s.twsrRd, faultAt := some (op, l), seq := .faulted,
          locals := { s.locals with raw := s.twsrRd, status := none } }

/-- Before a NEW has returned every other request is refused `NoInstance`, and nothing but the mark and the position
changes (R122, R123). That this reason, and not AddressTooWide, is recorded for a SEND_HEADER with an address of 0x80 or
more is the model's choice (log 10). -/
def Obligations.NoInstanceRefused : Prop :=
  ∀ (i : Instr) (s : State), labelsOf i ≠ [] → i ≠ .new → s.seq = .ready → s.divisor = none →
    exec i s = .next { s with refused := some .noInstance, seq := .refused }

/-- A refused encoding, met by a step, leaves the mark and the position changed and the call consumed (R81, R122, R123);
`calls` is the model's own (log 7). That the decoder's reason, and not NoInstance, is recorded where no driver object
exists either is the model's choice (log 10). -/
def Obligations.ReservedWordRefused : Prop :=
  ∀ (s : State) (c : Call) (rest : List Call) (w : ReqWord) (r : Reason),
    s.seq = .ready → s.busy = false → upcoming s = c :: rest → c.form = .word w → decodeReq w = .error r →
    step s = .next { s with calls := rest, refused := some r, seq := .refused }

/-- Faulted and Refused are terminal: no next state but a completion of the peripheral, which leaves both marks and
the position; and no step clears a mark (R120, R121, R123, the spec's decisions D1 and D7). That the step from Faulted
answers the Lean fault `terminal`, and the one from Refused the Lean refusal `terminal`, is the model's choice
(log 11). -/
def Obligations.MarksNeverCleared : Prop :=
  (∀ s : State, s.seq = .faulted → s.busy = false → step s = .fault (.terminal s.fault)) ∧
  (∀ s : State, s.seq = .refused → s.busy = false → step s = .refused (.terminal s.refused)) ∧
  (∀ s t : State, step s = .next t →
    (s.fault.isSome = true → t.fault.isSome = true) ∧ (s.refused.isSome = true → t.refused.isSome = true) ∧
    (s.seq = .faulted → t.seq = .faulted ∧ t.fault = s.fault) ∧
    (s.seq = .refused → t.seq = .refused ∧ t.refused = s.refused))

/-- At an await with the flag 0 the sequencer has no step that changes anything (R88, R89, the spec's decision D25). That
it has a step at all there, a poll, is the spinning reading of R89, which the model takes (log 16). -/
def Obligations.HeldAtAwait : Prop :=
  ∀ (op : Instr) (l : Label) (s : State), s.seq = .run op l → l ∈ labelsOf op →
    l ∈ [.s1, .p1, .h2, .t2, .v1, .a0] → s.intFlag = false → sequencerStep s = .next s

/-- The hang (R91, R126, R127): held at an await with no command in flight the machine stays for ever where it is; with
one in flight it is held through every number of waits that `script` gives the peripheral (log 3; a wait that a free value
decides is a clause of `CompletionStep`). That each of these steps is a poll which changes nothing is the spinning reading
of R89, which the model takes (log 16). -/
def Obligations.HangIsInfinite : Prop :=
  ∀ (op : Instr) (l : Label) (s : State), s.seq = .run op l → l ∈ labelsOf op →
    l ∈ [.s1, .p1, .h2, .t2, .v1, .a0] → s.intFlag = false →
    (s.busy = false → ∀ k, core.run k s = .next s) ∧
    (∀ k ms, s.busy = true → s.script = List.replicate k .wait ++ ms →
      core.run k s = .next { s with script := ms })

/-- While a command is in flight a poll of the sequencer changes nothing: the sequencer is at the await of that command,
and only the completion can move it on (R129). MODEL'S CHOICE: the spinning reading of R89 and R129, in which such a poll
is a step (log 16). -/
def Obligations.PollWhileBusyChangesNothing : Prop :=
  ∀ s : State, Inv s → s.busy = true → sequencerStep s = .next s

/-! ## Frames -/

/-- What no request and no command byte changes when `exec` gives a next state: the caller's operands and calls, the
peripheral's script, the status register's read view; NEW alone changes the divisor, INIT alone TWBR and the status
register's written byte, READ alone the slots, SEND_HEADER and SEND alone the data register; the marks change only on
the way into Faulted and Refused; the result changes only when a request is accepted or returns; the phase only by the
five operations R38 names; and a label's step never changes what the preamble put in the locals. -/
def Obligations.FrameOfEveryInstruction : Prop :=
  ∀ (i : Instr) (s t : State), exec i s = .next t →
    t.freq = s.freq ∧ t.data = s.data ∧ t.returned = s.returned ∧ t.calls = s.calls ∧ t.script = s.script ∧ t.twsrRd = s.twsrRd ∧
    (i ≠ .new → t.divisor = s.divisor) ∧
    (i ≠ .init → t.twbr = s.twbr ∧ t.twsrWr = s.twsrWr) ∧
    ((∀ e, i ≠ .read e) → t.buf = s.buf) ∧
    (i ≠ .send → (∀ a d, i ≠ .sendHeader a d) → t.twdr = s.twdr ∧ t.tick = s.tick) ∧
    (t.seq ≠ .faulted → t.fault = s.fault ∧ t.faultAt = s.faultAt) ∧
    (t.seq ≠ .refused → t.refused = s.refused) ∧
    (s.seq ≠ .ready → t.seq ≠ .ready → t.ret = s.ret) ∧
    (phaseOf i = none → t.phase = s.phase) ∧
    (s.seq ≠ .ready →
      t.locals.n = s.locals.n ∧ t.locals.payload = s.locals.payload ∧ t.locals.cmd = s.locals.cmd ∧
        t.locals.expected = s.locals.expected)

/-- NEW, DECODE and AWAIT access no writable register: all registers, the flag, the command in flight, the phase, the
fault mark and the locals stay, and every address reads as before (R92, R93, R86). -/
def Obligations.FrameOfNewDecodeAwait : Prop :=
  ∀ (i : Instr) (s t : State), i = .new ∨ (∃ raw, i = .decode raw) ∨ i = .await → exec i s = .next t →
    registers t = registers s ∧ t.phase = s.phase ∧ t.fault = s.fault ∧ t.faultAt = s.faultAt ∧
    t.locals = s.locals ∧ t.epoch = s.epoch ∧ ∀ a, memRead a t = memRead a s

/-- INIT leaves the flag, the command in flight, the data register, the phase, the locals and the fault mark (R97); every
address reads as before except TWBR's, and TWCR's, whose bit 7 stays. -/
def Obligations.FrameOfInit : Prop :=
  ∀ s t : State, exec .init s = .next t →
    t.intFlag = s.intFlag ∧ t.busy = s.busy ∧ t.pending = s.pending ∧ t.twdr = s.twdr ∧ t.phase = s.phase ∧
    t.locals = s.locals ∧ t.fault = s.fault ∧ t.faultAt = s.faultAt ∧
    ∀ a, a ≠ 0x00B8#16 → a ≠ 0x00BC#16 → memRead a t = memRead a s

/-- START and STOP write the control register alone: every other address reads as before; of the locals START changes
`raw` and `status` only, STOP none (R100, R103). -/
def Obligations.FrameOfStartStop : Prop :=
  (∀ s t : State, exec .start s = .next t →
    (∀ a, a ≠ 0x00BC#16 → memRead a t = memRead a s) ∧
    t.locals = { s.locals with raw := t.locals.raw, status := t.locals.status }) ∧
  (∀ s t : State, exec .stop s = .next t →
    (∀ a, a ≠ 0x00BC#16 → memRead a t = memRead a s) ∧ t.locals = s.locals ∧ t.fault = s.fault ∧
    t.faultAt = s.faultAt)

/-- SEND_HEADER, SEND and READ: the one register stored to is the one their label's access writes; every other address
reads as before (R107, R110, R112). -/
def Obligations.FrameOfTransfers : Prop :=
  ∀ (i : Instr) (s t : State), (∃ a d, i = .sendHeader a d) ∨ i = .send ∨ (∃ e, i = .read e) → exec i s = .next t →
    ∀ b : Addr, (∀ a v, accessAt s = some (.write a v) → b ≠ a) → memRead b t = memRead b s

/-- READ stores one byte of caller memory, at the slot `i`, in the step of `V3`; every other slot, and the number of
slots, stay (R37, R48, R115). -/
def Obligations.FrameOfReadSlots : Prop :=
  ∀ (e : Bool) (s t : State), exec (.read e) s = .next t →
    t.buf.length = s.buf.length ∧ (∀ j, j ≠ s.locals.i → t.buf[j]? = s.buf[j]?) ∧
    (s.seq ≠ .run (.read e) .v3 → t.buf = s.buf)

/-- A command byte changes the control register's written byte, and, with bit 7 = 1, the flag and the command in
flight, nothing else (R61); `epoch` is the model's own. -/
def Obligations.FrameOfCommandBytes : Prop :=
  ∀ (i : Instr) (s t : State), labelsOf i = [] → exec i s = .next t →
    t = { s with
          twcrWr := t.twcrWr, intFlag := t.intFlag, busy := t.busy, pending := t.pending, epoch := s.epoch + 1 } ∧
    (i = .cmdEnable → t.intFlag = s.intFlag ∧ t.busy = s.busy ∧ t.pending = s.pending) ∧
    ∀ a, a ≠ 0x00BC#16 → memRead a t = memRead a s

/-! ## Whole-machine rules -/

/-- The interrupt flag goes from 1 to 0 only in a step that writes a command, and from 0 to 1 only while a command is
in flight (R33, R61, R125). -/
def Obligations.FlagChangesOnlyByCommandAndCompletion : Prop :=
  ∀ s t : State, step s = .next t →
    (s.intFlag = true → t.intFlag = false →
      ∃ v : Byte, accessAt s = some (.write 0x00BC#16 v) ∧ v.getLsbD 7 = true ∧ t.twcrWr = some v) ∧
    (s.intFlag = false → t.intFlag = true → s.busy = true ∧ t.busy = false)

/-- The divisor is written once, by NEW; TWBR only by INIT with the divisor; the status read view only by a completion;
the slots only by READ's `V3` or when a READ is presented (R19, R28, R29, R37). -/
def Obligations.OnlyTheseStepsWrite : Prop :=
  ∀ s t : State, step s = .next t →
    (t.divisor ≠ s.divisor → s.divisor = none ∧ s.seq = .run .new .f0) ∧
    (t.twbr ≠ s.twbr → s.seq = .run .init .i1 ∧ s.divisor = some t.twbr) ∧
    (t.twsrRd ≠ s.twsrRd → s.busy = true) ∧
    (t.buf ≠ s.buf → s.seq = .ready ∨ ∃ e, s.seq = .run (.read e) .v3)

/-- No rule of the block reads the ghost phase: with another phase every instruction takes the same step, but for the
phase it leaves (R25, R38, R117). -/
def Obligations.PhaseIsNeverRead : Prop :=
  ∀ (i : Instr) (s : State) (p : Phase),
    (∀ t, exec i s = .next t → ∃ q, exec i { s with phase := p } = .next { t with phase := q }) ∧
    (∀ f, exec i s = .fault f → exec i { s with phase := p } = .fault f) ∧
    (∀ r, exec i s = .refused r → exec i { s with phase := p } = .refused r)

/-- What a request returns when it returns: `Ok` or `Err` from START, SEND_HEADER, SEND and READ, `Ok` from STOP,
nothing from NEW, INIT and AWAIT, the option value from DECODE (R24, R118). -/
def Obligations.ResultTaxonomy : Prop :=
  ∀ (op : Instr) (l : Label) (s t : State), s.seq = .run op l → exec op s = .next t → t.seq = .ready →
    match op with
    | .new => t.ret = none
    | .init => t.ret = none
    | .start => t.ret = some .ok ∨ ∃ st, t.ret = some (.err st)
    | .stop => t.ret = some .ok
    | .sendHeader _ _ => t.ret = some .ok ∨ ∃ st, t.ret = some (.err st)
    | .send => t.ret = some .ok ∨ ∃ st, t.ret = some (.err st)
    | .read _ => t.ret = some .ok ∨ ∃ st, t.ret = some (.err st)
    | .decode raw => t.ret = some (.decoded (decodeStatus raw))
    | .await => t.ret = none
    | _ => False

/-! ## Steps -/

/-- The step considers the caller's next request: the decoded instruction is executed at the state with the call
consumed and its side operand presented (R21, R51, R68, R70); `calls` is the model's own (log 7). With no call the block
stays; with none left to issue the unissued ones are dropped (R84). -/
def Obligations.StepRunsRequest : Prop :=
  ∀ s : State, s.seq = .ready → s.busy = false →
    (s.calls = [] → step s = .next s) ∧
    (upcoming s = [] → step s = .next { s with calls := [] }) ∧
    (∀ c rest w i, upcoming s = c :: rest → c.form = .word w → decodeReq w = .ok i →
      step s = exec i (presentOperands i c { s with calls := rest })) ∧
    (∀ c rest a d, upcoming s = c :: rest → c.form = .header a d →
      step s = exec (.sendHeader a d) { s with calls := rest })

/-- The step of a running operation is that operation's step (R21, R23, R52), with no command in flight, or with one in
flight where `script` has the peripheral wait (log 3; a wait that a free value decides is a clause of
`CompletionStep`). -/
def Obligations.StepRunsOperation : Prop :=
  ∀ (s : State) (op : Instr) (l : Label), s.seq = .run op l → l ∈ labelsOf op →
    (s.busy = false → step s = exec op s) ∧
    (∀ ms, s.busy = true → s.script = .wait :: ms → step s = exec op { s with script := ms })

/-- The step at a label that writes a command byte does to the registers what executing that byte does (R61, R74). -/
def Obligations.StepRunsCommandByte : Prop :=
  ∀ (s : State) (op : Instr) (l : Label) (v : Byte) (c : Instr), s.seq = .run op l → l ∈ labelsOf op →
    s.busy = false → accessAt s = some (.write 0x00BC#16 v) → decodeCmd v = .ok c →
    ∃ t u, exec c s = .next t ∧ step s = .next u ∧ registers u = registers t ∧ u.epoch = t.epoch

/-! ## Reset and the invariant -/

/-- Power-up (R39): the values the spec gives. The four draws are free values, of which nothing is said. -/
def Obligations.PowerUp : Prop :=
  State.reset.divisor = none ∧ State.reset.seq = .ready ∧ State.reset.ret = none ∧ State.reset.fault = none ∧
  State.reset.refused = none ∧ State.reset.twsrWr = none ∧ State.reset.twcrWr = none ∧ State.reset.busy = false ∧
  State.reset.pending = none ∧ State.reset.phase = .idle

/-- The invariant holds at power-up. -/
def Obligations.InvAtReset : Prop := Inv State.reset

/-- Every step keeps the invariant. -/
def Obligations.StepKeepsInv : Prop :=
  ∀ s t : State, Inv s → step s = .next t → Inv t

/-- Under the invariant a step stops only where the spec gives none: in Faulted, in Refused (R120, R123), and (the
model's choice, log 9) at a second NEW with an admitted frequency. That the stop in Faulted and Refused is the Lean
outcome `terminal` is the model's choice (log 11). -/
def Obligations.StopsOnlyWhereSpecGivesNoStep : Prop :=
  ∀ s : State, Inv s →
    (∀ f, step s = .fault f → s.seq = .faulted ∧ f = .terminal s.fault ∧ ∃ raw, s.fault = some raw) ∧
    (∀ r, step s = .refused r →
      (s.seq = .refused ∧ r = .terminal s.refused ∧ ∃ reason, s.refused = some reason) ∨
        (s.seq = .run .new .f0 ∧ s.divisor ≠ none ∧ (∃ d, divisorOf s.freq = .ok d) ∧ r = .secondInstance))

/-! ## Whole operations -/

/-- START from its request to its end, for every status byte the peripheral delivers: `Ok` exactly on StartTransmitted,
`Err` of every other named status, the terminal fault on an absent code (R100, R101, R120). That the request takes five
steps (log 12), and that the peripheral's answer is read from `script` (log 3), is the model's choice. -/
def Obligations.StartWhole : Prop :=
  ∀ (s : State) (dv st d : Byte) (c : Call) (rest : List Call) (ms : List PeripheralMove),
    s.seq = .ready → s.divisor = some dv → s.busy = false → upcoming s = c :: rest → c.form = .word 0x2000#16 →
    s.script = .complete st d :: ms →
    ∃ t, core.run 5 s = .next t ∧ t.calls = rest ∧ t.script = ms ∧ t.twcrWr = some 0xA4#8 ∧ t.intFlag = true ∧
      t.busy = false ∧ t.phase = .startPending ∧
      match decodeStatus st with
      | none => t.seq = .faulted ∧ t.fault = some st ∧ t.faultAt = some (.start, .s2) ∧ t.ret = none
      | some v => t.seq = .ready ∧ t.fault = s.fault ∧ t.ret = some (if v = .startTransmitted then .ok else .err v)

/-- STOP from its request to its end: `Ok` for every status byte, absent codes included; no label of STOP reads the
status register (R103, and R104, where the spec says that it decides so: D6). That the request takes four steps (log 12),
and that the peripheral's answer is read from `script` (log 3), is the model's choice. -/
def Obligations.StopWhole : Prop :=
  (∀ (s : State) (dv st d : Byte) (c : Call) (rest : List Call) (ms : List PeripheralMove),
    s.seq = .ready → s.divisor = some dv → s.busy = false → upcoming s = c :: rest → c.form = .word 0x3000#16 →
    s.script = .complete st d :: ms →
    ∃ t, core.run 4 s = .next t ∧ t.calls = rest ∧ t.script = ms ∧ t.seq = .ready ∧ t.ret = some .ok ∧
      t.fault = s.fault ∧ t.twcrWr = some 0x94#8 ∧ t.intFlag = true ∧ t.phase = .idle) ∧
  (∀ (s : State) (l : Label), s.seq = .run .stop l → l ∈ labelsOf .stop → accessAt s ≠ some (.read 0x00B9#16))

/-- SEND_HEADER from its request to its end: the payload is latched with the command (flag 1 at the request), and the
result is `Ok` exactly on the acknowledge of its own direction (R107, R108). The step count (log 12) and `script` (log 3)
are the model's. -/
def Obligations.SendHeaderWhole : Prop :=
  ∀ (s : State) (a : Byte) (dir : Direction) (dv st d : Byte) (c : Call) (rest : List Call)
    (ms : List PeripheralMove),
    s.seq = .ready → s.divisor = some dv → s.busy = false → upcoming s = c :: rest → c.form = .header a dir →
    a ≤ 0x7F#8 → s.intFlag = true → s.script = .complete st d :: ms →
    (∃ u, core.run 3 s = .next u ∧
      u.pending = some (0x84#8, (a <<< 1) ||| (if dir = .read then 0x01#8 else 0x00#8))) ∧
    ∃ t, core.run 6 s = .next t ∧ t.calls = rest ∧ t.script = ms ∧ t.intFlag = true ∧ t.phase = .headerPending ∧
      match decodeStatus st with
      | none => t.seq = .faulted ∧ t.fault = some st ∧ t.ret = none
      | some v =>
        t.seq = .ready ∧
          t.ret = some (if (dir = .read ∧ v = .readHeaderAcked) ∨ (dir = .write ∧ v = .writeHeaderAcked) then .ok
            else .err v)

/-- SEND of any byte sequence, all acknowledged: byte k is the one latched with command k, for every k, and the result
is `Ok` (R110). With the flag 0 at the request the first byte is lost to a free value, as `SendSteps` says (R59). The
step count (log 12) and `script` (log 3) are the model's. -/
def Obligations.SendWhole : Prop :=
  ∀ (s : State) (dv : Byte) (c : Call) (rest : List Call) (ds : List Byte) (ms : List PeripheralMove),
    s.seq = .ready → s.divisor = some dv → s.busy = false → s.intFlag = true →
    upcoming s = c :: rest → c.form = .word 0x5000#16 → ds.length = c.data.length →
    s.script = ds.map (PeripheralMove.complete 0x28#8) ++ ms →
    (∀ (k : Nat) (b : Byte), c.data[k]? = some b →
      ∃ u, core.run (5 * k + 3) s = .next u ∧ u.pending = some (0x84#8, b)) ∧
    ∃ t, core.run (5 * c.data.length + 2) s = .next t ∧ t.seq = .ready ∧ t.ret = some .ok ∧ t.calls = rest ∧
      t.script = ms ∧ t.fault = s.fault ∧ t.epoch = s.epoch + 2 * c.data.length

/-- SEND's early exit: the first byte whose status is not DataSentAcked ends it with that status; the bytes up to it
were latched, k + 1 commands were written and completed (`epoch` counts both), and no later byte is written (R110,
R111, R116). An absent code is the fault of `UnknownStatusFaults`. The step count (log 12) and `script` (log 3) are the
model's. -/
def Obligations.SendEarlyExit : Prop :=
  ∀ (s : State) (dv st d : Byte) (v : BusStatus) (c : Call) (rest : List Call) (ds : List Byte)
    (ms : List PeripheralMove),
    s.seq = .ready → s.divisor = some dv → s.busy = false → s.intFlag = true →
    upcoming s = c :: rest → c.form = .word 0x5000#16 → ds.length < c.data.length →
    s.script = ds.map (PeripheralMove.complete 0x28#8) ++ .complete st d :: ms →
    decodeStatus st = some v → v ≠ .dataSentAcked →
    (∀ (k : Nat) (b : Byte), k ≤ ds.length → c.data[k]? = some b →
      ∃ u, core.run (5 * k + 3) s = .next u ∧ u.pending = some (0x84#8, b)) ∧
    ∃ t, core.run (5 * ds.length + 6) s = .next t ∧ t.seq = .ready ∧ t.ret = some (.err v) ∧ t.calls = rest ∧
      t.script = ms ∧ t.twdr = d ∧ t.locals.i = ds.length ∧ t.epoch = s.epoch + 2 * (ds.length + 1)

/-- READ of any number of slots, all with the required status: the slots hold the received bytes in order and the
result is `Ok`; the flag is evaluated identically for every slot (R112, R113, R114). The step count (log 12) and
`script` (log 3) are the model's. -/
def Obligations.ReadWhole : Prop :=
  ∀ (s : State) (e : Bool) (dv : Byte) (c : Call) (rest : List Call) (ds : List Byte) (ms : List PeripheralMove),
    s.seq = .ready → s.divisor = some dv → s.busy = false →
    upcoming s = c :: rest → c.form = .word (if e then 0x6001#16 else 0x6000#16) → ds.length = c.buf.length →
    s.script = ds.map (PeripheralMove.complete (if e then 0x50#8 else 0x58#8)) ++ ms →
    (∀ k, k < c.buf.length →
      ∃ u b, core.run (5 * k + 2) s = .next u ∧ u.pending = some (if e then 0xC4#8 else 0x84#8, b)) ∧
    ∃ t, core.run (5 * c.buf.length + 2) s = .next t ∧ t.seq = .ready ∧ t.ret = some .ok ∧ t.buf = ds ∧
      t.calls = rest ∧ t.script = ms ∧ t.fault = s.fault ∧ t.epoch = s.epoch + 2 * c.buf.length

/-- READ's early exit: the first slot whose status is not the required one ends it with that status; that slot and
every later one keep their contents (R112, R115, R116). An absent code is the fault of `UnknownStatusFaults`. The step
count (log 12) and `script` (log 3) are the model's. -/
def Obligations.ReadEarlyExit : Prop :=
  ∀ (s : State) (e : Bool) (dv st d : Byte) (v : BusStatus) (c : Call) (rest : List Call) (ds : List Byte)
    (ms : List PeripheralMove),
    s.seq = .ready → s.divisor = some dv → s.busy = false →
    upcoming s = c :: rest → c.form = .word (if e then 0x6001#16 else 0x6000#16) → ds.length < c.buf.length →
    s.script = ds.map (PeripheralMove.complete (if e then 0x50#8 else 0x58#8)) ++ .complete st d :: ms →
    decodeStatus st = some v → v ≠ (if e then .dataReceivedAckSent else .dataReceivedNackSent) →
    ∃ t, core.run (5 * ds.length + 5) s = .next t ∧ t.seq = .ready ∧ t.ret = some (.err v) ∧
      t.buf = ds ++ c.buf.drop ds.length ∧ t.calls = rest ∧ t.script = ms ∧
      t.epoch = s.epoch + 2 * (ds.length + 1)

/-- Termination under the open parameter `FAIR_CMDS`: if the run is fair for `FAIR_CMDS` and the running operation's
command is in it, the operation comes to rest, whatever the peripheral answers; AWAIT and a second NEW are left out
(R90, R126, D5). `FairRun` is the model's choice of a fairness (log 19). -/
def Obligations.FairOperationsEnd : Prop :=
  ∀ (s : State) (op : Instr) (l : Label), Inv s → s.seq = .run op l → op ≠ .await → (op = .new → s.divisor = none) →
    ∀ cmds : List Byte, (∀ v, commandOf op = some v → v ∈ cmds) → FairRun cmds s → ComesToRest s

/-! ## Pseudo-instructions -/

/-- The expansions of the pseudo-instructions, and that one stops at the first request that returns `Err` (R84, which the
spec marks as its decision D32). The caller's tag on a call and the skip are the model's form of it (log 7): the first
request of an expansion is issued whatever came before, a later one only if the request before it did not return `Err`;
an address of 0x80 or more reaches SEND_HEADER and is refused there (R109, R123), in the step that considers it (log 10).
In the last clause START does not succeed (R100, R101), and the block comes to rest with the rest of the expansion
unissued; its step counts (log 12) and `script` (log 3) are the model's choice. -/
def Obligations.ExpansionStopsAtErr : Prop :=
  (∀ (a : Byte) (bs : List Byte),
    (writeTxn a bs).map Call.request = [.ok .start, .ok (.sendHeader a .write), .ok .send, .ok .stop] ∧
    (readTxnAck a bs).map Call.request = [.ok .start, .ok (.sendHeader a .read), .ok (.read true), .ok .stop] ∧
    (writeTxn a bs).map Call.data = [[], [], bs, []] ∧ (readTxnAck a bs).map Call.buf = [[], [], bs, []]) ∧
  (∀ (front : List Byte) (last : Byte),
    (readAckAllButLast (front ++ [last])).map (fun c => (c.request, c.buf)) =
      if front = [] then [(.ok (.read false), [last])] else [(.ok (.read true), front), (.ok (.read false), [last])]) ∧
  (∀ (cs : List Call) (a : Byte) (bs : List Byte), cs ∈ [writeTxn a bs, readTxnAck a bs, readAckAllButLast bs] →
    ∃ c later, cs = c :: later ∧ c.onlyAfterOk = false ∧ ∀ d ∈ later, d.onlyAfterOk = true) ∧
  (∀ s : State, (∀ v, s.ret ≠ some (.err v)) → upcoming s = s.calls) ∧
  (∀ (s : State) (v : BusStatus) (later rest : List Call), s.ret = some (.err v) → s.calls = later ++ rest →
    (∀ d ∈ later, d.onlyAfterOk = true) → (∀ c, rest.head? = some c → c.onlyAfterOk = false) → upcoming s = rest) ∧
  (∀ (s : State) (dv a : Byte) (bs : List Byte) (cs rest : List Call), s.seq = .ready → s.busy = false →
    s.divisor = some dv → (∀ v, s.ret ≠ some (.err v)) → cs ∈ [writeTxn a bs, readTxnAck a bs] → 0x80#8 ≤ a →
    s.calls = cs.drop 1 ++ rest →
    step s = .next { s with calls := cs.drop 2 ++ rest, refused := some .addressTooWide, seq := .refused }) ∧
  (∀ (s : State) (dv a st d : Byte) (bs : List Byte) (v : BusStatus) (cs rest : List Call) (ms : List PeripheralMove),
    s.seq = .ready → s.busy = false → s.divisor = some dv → cs ∈ [writeTxn a bs, readTxnAck a bs] →
    upcoming s = cs ++ rest → (∀ c, rest.head? = some c → c.onlyAfterOk = false) → s.script = .complete st d :: ms →
    decodeStatus st = some v → v ≠ .startTransmitted →
    ∃ t, core.run 5 s = .next t ∧ t.seq = .ready ∧ t.ret = some (.err v) ∧ t.twcrWr = some 0xA4#8 ∧
      upcoming t = rest ∧ (rest = [] → ∀ k, core.run (k + 6) s = .next { t with calls := [] }))
end

