-- ==== Sys2Proof/Laws/State.lean ====
section
/-! SUPPORT. What each named update of the state does to each field: one lemma per field and update. -/

namespace Sys2Proof.Machine

/-! ### writeTwbr -/

@[simp] theorem writeTwbr_divisor (v : Byte) (s : State) : (writeTwbr v s).divisor = s.divisor := rfl
@[simp] theorem writeTwbr_seq (v : Byte) (s : State) : (writeTwbr v s).seq = s.seq := rfl
@[simp] theorem writeTwbr_locals (v : Byte) (s : State) : (writeTwbr v s).locals = s.locals := rfl
@[simp] theorem writeTwbr_ret (v : Byte) (s : State) : (writeTwbr v s).ret = s.ret := rfl
@[simp] theorem writeTwbr_fault (v : Byte) (s : State) : (writeTwbr v s).fault = s.fault := rfl
@[simp] theorem writeTwbr_faultAt (v : Byte) (s : State) : (writeTwbr v s).faultAt = s.faultAt := rfl
@[simp] theorem writeTwbr_refused (v : Byte) (s : State) : (writeTwbr v s).refused = s.refused := rfl
@[simp] theorem writeTwbr_twbr (v : Byte) (s : State) : (writeTwbr v s).twbr = v := rfl
@[simp] theorem writeTwbr_twsrRd (v : Byte) (s : State) : (writeTwbr v s).twsrRd = s.twsrRd := rfl
@[simp] theorem writeTwbr_twsrWr (v : Byte) (s : State) : (writeTwbr v s).twsrWr = s.twsrWr := rfl
@[simp] theorem writeTwbr_twdr (v : Byte) (s : State) : (writeTwbr v s).twdr = s.twdr := rfl
@[simp] theorem writeTwbr_twcrWr (v : Byte) (s : State) : (writeTwbr v s).twcrWr = s.twcrWr := rfl
@[simp] theorem writeTwbr_intFlag (v : Byte) (s : State) : (writeTwbr v s).intFlag = s.intFlag := rfl
@[simp] theorem writeTwbr_busy (v : Byte) (s : State) : (writeTwbr v s).busy = s.busy := rfl
@[simp] theorem writeTwbr_pending (v : Byte) (s : State) : (writeTwbr v s).pending = s.pending := rfl
@[simp] theorem writeTwbr_phase (v : Byte) (s : State) : (writeTwbr v s).phase = s.phase := rfl
@[simp] theorem writeTwbr_freq (v : Byte) (s : State) : (writeTwbr v s).freq = s.freq := rfl
@[simp] theorem writeTwbr_data (v : Byte) (s : State) : (writeTwbr v s).data = s.data := rfl
@[simp] theorem writeTwbr_buf (v : Byte) (s : State) : (writeTwbr v s).buf = s.buf := rfl
@[simp] theorem writeTwbr_returned (v : Byte) (s : State) : (writeTwbr v s).returned = s.returned := rfl
@[simp] theorem writeTwbr_calls (v : Byte) (s : State) : (writeTwbr v s).calls = s.calls := rfl
@[simp] theorem writeTwbr_script (v : Byte) (s : State) : (writeTwbr v s).script = s.script := rfl
@[simp] theorem writeTwbr_tick (v : Byte) (s : State) : (writeTwbr v s).tick = s.tick := rfl
@[simp] theorem writeTwbr_epoch (v : Byte) (s : State) : (writeTwbr v s).epoch = s.epoch := rfl

/-! ### writeTwsr -/

@[simp] theorem writeTwsr_divisor (v : Byte) (s : State) : (writeTwsr v s).divisor = s.divisor := rfl
@[simp] theorem writeTwsr_seq (v : Byte) (s : State) : (writeTwsr v s).seq = s.seq := rfl
@[simp] theorem writeTwsr_locals (v : Byte) (s : State) : (writeTwsr v s).locals = s.locals := rfl
@[simp] theorem writeTwsr_ret (v : Byte) (s : State) : (writeTwsr v s).ret = s.ret := rfl
@[simp] theorem writeTwsr_fault (v : Byte) (s : State) : (writeTwsr v s).fault = s.fault := rfl
@[simp] theorem writeTwsr_faultAt (v : Byte) (s : State) : (writeTwsr v s).faultAt = s.faultAt := rfl
@[simp] theorem writeTwsr_refused (v : Byte) (s : State) : (writeTwsr v s).refused = s.refused := rfl
@[simp] theorem writeTwsr_twbr (v : Byte) (s : State) : (writeTwsr v s).twbr = s.twbr := rfl
@[simp] theorem writeTwsr_twsrRd (v : Byte) (s : State) : (writeTwsr v s).twsrRd = s.twsrRd := rfl
@[simp] theorem writeTwsr_twsrWr (v : Byte) (s : State) : (writeTwsr v s).twsrWr = some v := rfl
@[simp] theorem writeTwsr_twdr (v : Byte) (s : State) : (writeTwsr v s).twdr = s.twdr := rfl
@[simp] theorem writeTwsr_twcrWr (v : Byte) (s : State) : (writeTwsr v s).twcrWr = s.twcrWr := rfl
@[simp] theorem writeTwsr_intFlag (v : Byte) (s : State) : (writeTwsr v s).intFlag = s.intFlag := rfl
@[simp] theorem writeTwsr_busy (v : Byte) (s : State) : (writeTwsr v s).busy = s.busy := rfl
@[simp] theorem writeTwsr_pending (v : Byte) (s : State) : (writeTwsr v s).pending = s.pending := rfl
@[simp] theorem writeTwsr_phase (v : Byte) (s : State) : (writeTwsr v s).phase = s.phase := rfl
@[simp] theorem writeTwsr_freq (v : Byte) (s : State) : (writeTwsr v s).freq = s.freq := rfl
@[simp] theorem writeTwsr_data (v : Byte) (s : State) : (writeTwsr v s).data = s.data := rfl
@[simp] theorem writeTwsr_buf (v : Byte) (s : State) : (writeTwsr v s).buf = s.buf := rfl
@[simp] theorem writeTwsr_returned (v : Byte) (s : State) : (writeTwsr v s).returned = s.returned := rfl
@[simp] theorem writeTwsr_calls (v : Byte) (s : State) : (writeTwsr v s).calls = s.calls := rfl
@[simp] theorem writeTwsr_script (v : Byte) (s : State) : (writeTwsr v s).script = s.script := rfl
@[simp] theorem writeTwsr_tick (v : Byte) (s : State) : (writeTwsr v s).tick = s.tick := rfl
@[simp] theorem writeTwsr_epoch (v : Byte) (s : State) : (writeTwsr v s).epoch = s.epoch := rfl

/-! ### writeTwdr -/

@[simp] theorem writeTwdr_divisor (v : Byte) (s : State) : (writeTwdr v s).divisor = s.divisor := by
  unfold writeTwdr; split <;> rfl
@[simp] theorem writeTwdr_seq (v : Byte) (s : State) : (writeTwdr v s).seq = s.seq := by
  unfold writeTwdr; split <;> rfl
@[simp] theorem writeTwdr_locals (v : Byte) (s : State) : (writeTwdr v s).locals = s.locals := by
  unfold writeTwdr; split <;> rfl
@[simp] theorem writeTwdr_ret (v : Byte) (s : State) : (writeTwdr v s).ret = s.ret := by
  unfold writeTwdr; split <;> rfl
@[simp] theorem writeTwdr_fault (v : Byte) (s : State) : (writeTwdr v s).fault = s.fault := by
  unfold writeTwdr; split <;> rfl
@[simp] theorem writeTwdr_faultAt (v : Byte) (s : State) : (writeTwdr v s).faultAt = s.faultAt := by
  unfold writeTwdr; split <;> rfl
@[simp] theorem writeTwdr_refused (v : Byte) (s : State) : (writeTwdr v s).refused = s.refused := by
  unfold writeTwdr; split <;> rfl
@[simp] theorem writeTwdr_twbr (v : Byte) (s : State) : (writeTwdr v s).twbr = s.twbr := by
  unfold writeTwdr; split <;> rfl
@[simp] theorem writeTwdr_twsrRd (v : Byte) (s : State) : (writeTwdr v s).twsrRd = s.twsrRd := by
  unfold writeTwdr; split <;> rfl
@[simp] theorem writeTwdr_twsrWr (v : Byte) (s : State) : (writeTwdr v s).twsrWr = s.twsrWr := by
  unfold writeTwdr; split <;> rfl
@[simp] theorem writeTwdr_twcrWr (v : Byte) (s : State) : (writeTwdr v s).twcrWr = s.twcrWr := by
  unfold writeTwdr; split <;> rfl
@[simp] theorem writeTwdr_intFlag (v : Byte) (s : State) : (writeTwdr v s).intFlag = s.intFlag := by
  unfold writeTwdr; split <;> rfl
@[simp] theorem writeTwdr_busy (v : Byte) (s : State) : (writeTwdr v s).busy = s.busy := by
  unfold writeTwdr; split <;> rfl
@[simp] theorem writeTwdr_pending (v : Byte) (s : State) : (writeTwdr v s).pending = s.pending := by
  unfold writeTwdr; split <;> rfl
@[simp] theorem writeTwdr_phase (v : Byte) (s : State) : (writeTwdr v s).phase = s.phase := by
  unfold writeTwdr; split <;> rfl
@[simp] theorem writeTwdr_freq (v : Byte) (s : State) : (writeTwdr v s).freq = s.freq := by
  unfold writeTwdr; split <;> rfl
@[simp] theorem writeTwdr_data (v : Byte) (s : State) : (writeTwdr v s).data = s.data := by
  unfold writeTwdr; split <;> rfl
@[simp] theorem writeTwdr_buf (v : Byte) (s : State) : (writeTwdr v s).buf = s.buf := by
  unfold writeTwdr; split <;> rfl
@[simp] theorem writeTwdr_returned (v : Byte) (s : State) : (writeTwdr v s).returned = s.returned := by
  unfold writeTwdr; split <;> rfl
@[simp] theorem writeTwdr_calls (v : Byte) (s : State) : (writeTwdr v s).calls = s.calls := by
  unfold writeTwdr; split <;> rfl
@[simp] theorem writeTwdr_script (v : Byte) (s : State) : (writeTwdr v s).script = s.script := by
  unfold writeTwdr; split <;> rfl
@[simp] theorem writeTwdr_epoch (v : Byte) (s : State) : (writeTwdr v s).epoch = s.epoch := by
  unfold writeTwdr; split <;> rfl

/-! ### writeTwcr -/

@[simp] theorem writeTwcr_divisor (v : Byte) (s : State) : (writeTwcr v s).divisor = s.divisor := by
  unfold writeTwcr; split <;> rfl
@[simp] theorem writeTwcr_seq (v : Byte) (s : State) : (writeTwcr v s).seq = s.seq := by
  unfold writeTwcr; split <;> rfl
@[simp] theorem writeTwcr_locals (v : Byte) (s : State) : (writeTwcr v s).locals = s.locals := by
  unfold writeTwcr; split <;> rfl
@[simp] theorem writeTwcr_ret (v : Byte) (s : State) : (writeTwcr v s).ret = s.ret := by
  unfold writeTwcr; split <;> rfl
@[simp] theorem writeTwcr_fault (v : Byte) (s : State) : (writeTwcr v s).fault = s.fault := by
  unfold writeTwcr; split <;> rfl
@[simp] theorem writeTwcr_faultAt (v : Byte) (s : State) : (writeTwcr v s).faultAt = s.faultAt := by
  unfold writeTwcr; split <;> rfl
@[simp] theorem writeTwcr_refused (v : Byte) (s : State) : (writeTwcr v s).refused = s.refused := by
  unfold writeTwcr; split <;> rfl
@[simp] theorem writeTwcr_twbr (v : Byte) (s : State) : (writeTwcr v s).twbr = s.twbr := by
  unfold writeTwcr; split <;> rfl
@[simp] theorem writeTwcr_twsrRd (v : Byte) (s : State) : (writeTwcr v s).twsrRd = s.twsrRd := by
  unfold writeTwcr; split <;> rfl
@[simp] theorem writeTwcr_twsrWr (v : Byte) (s : State) : (writeTwcr v s).twsrWr = s.twsrWr := by
  unfold writeTwcr; split <;> rfl
@[simp] theorem writeTwcr_twdr (v : Byte) (s : State) : (writeTwcr v s).twdr = s.twdr := by
  unfold writeTwcr; split <;> rfl
@[simp] theorem writeTwcr_twcrWr (v : Byte) (s : State) : (writeTwcr v s).twcrWr = some v := by
  unfold writeTwcr; split <;> rfl
@[simp] theorem writeTwcr_phase (v : Byte) (s : State) : (writeTwcr v s).phase = s.phase := by
  unfold writeTwcr; split <;> rfl
@[simp] theorem writeTwcr_freq (v : Byte) (s : State) : (writeTwcr v s).freq = s.freq := by
  unfold writeTwcr; split <;> rfl
@[simp] theorem writeTwcr_data (v : Byte) (s : State) : (writeTwcr v s).data = s.data := by
  unfold writeTwcr; split <;> rfl
@[simp] theorem writeTwcr_buf (v : Byte) (s : State) : (writeTwcr v s).buf = s.buf := by
  unfold writeTwcr; split <;> rfl
@[simp] theorem writeTwcr_returned (v : Byte) (s : State) : (writeTwcr v s).returned = s.returned := by
  unfold writeTwcr; split <;> rfl
@[simp] theorem writeTwcr_calls (v : Byte) (s : State) : (writeTwcr v s).calls = s.calls := by
  unfold writeTwcr; split <;> rfl
@[simp] theorem writeTwcr_script (v : Byte) (s : State) : (writeTwcr v s).script = s.script := by
  unfold writeTwcr; split <;> rfl
@[simp] theorem writeTwcr_tick (v : Byte) (s : State) : (writeTwcr v s).tick = s.tick := by
  unfold writeTwcr; split <;> rfl
@[simp] theorem writeTwcr_epoch (v : Byte) (s : State) : (writeTwcr v s).epoch = s.epoch + 1 := by
  unfold writeTwcr; split <;> rfl

/-! ### goto -/

@[simp] theorem goto_divisor (op : Instr) (l : Label) (s : State) : (goto op l s).divisor = s.divisor := rfl
@[simp] theorem goto_seq (op : Instr) (l : Label) (s : State) : (goto op l s).seq = .run op l := rfl
@[simp] theorem goto_locals (op : Instr) (l : Label) (s : State) : (goto op l s).locals = s.locals := rfl
@[simp] theorem goto_ret (op : Instr) (l : Label) (s : State) : (goto op l s).ret = s.ret := rfl
@[simp] theorem goto_fault (op : Instr) (l : Label) (s : State) : (goto op l s).fault = s.fault := rfl
@[simp] theorem goto_faultAt (op : Instr) (l : Label) (s : State) : (goto op l s).faultAt = s.faultAt := rfl
@[simp] theorem goto_refused (op : Instr) (l : Label) (s : State) : (goto op l s).refused = s.refused := rfl
@[simp] theorem goto_twbr (op : Instr) (l : Label) (s : State) : (goto op l s).twbr = s.twbr := rfl
@[simp] theorem goto_twsrRd (op : Instr) (l : Label) (s : State) : (goto op l s).twsrRd = s.twsrRd := rfl
@[simp] theorem goto_twsrWr (op : Instr) (l : Label) (s : State) : (goto op l s).twsrWr = s.twsrWr := rfl
@[simp] theorem goto_twdr (op : Instr) (l : Label) (s : State) : (goto op l s).twdr = s.twdr := rfl
@[simp] theorem goto_twcrWr (op : Instr) (l : Label) (s : State) : (goto op l s).twcrWr = s.twcrWr := rfl
@[simp] theorem goto_intFlag (op : Instr) (l : Label) (s : State) : (goto op l s).intFlag = s.intFlag := rfl
@[simp] theorem goto_busy (op : Instr) (l : Label) (s : State) : (goto op l s).busy = s.busy := rfl
@[simp] theorem goto_pending (op : Instr) (l : Label) (s : State) : (goto op l s).pending = s.pending := rfl
@[simp] theorem goto_phase (op : Instr) (l : Label) (s : State) : (goto op l s).phase = s.phase := rfl
@[simp] theorem goto_freq (op : Instr) (l : Label) (s : State) : (goto op l s).freq = s.freq := rfl
@[simp] theorem goto_data (op : Instr) (l : Label) (s : State) : (goto op l s).data = s.data := rfl
@[simp] theorem goto_buf (op : Instr) (l : Label) (s : State) : (goto op l s).buf = s.buf := rfl
@[simp] theorem goto_returned (op : Instr) (l : Label) (s : State) : (goto op l s).returned = s.returned := rfl
@[simp] theorem goto_calls (op : Instr) (l : Label) (s : State) : (goto op l s).calls = s.calls := rfl
@[simp] theorem goto_script (op : Instr) (l : Label) (s : State) : (goto op l s).script = s.script := rfl
@[simp] theorem goto_tick (op : Instr) (l : Label) (s : State) : (goto op l s).tick = s.tick := rfl
@[simp] theorem goto_epoch (op : Instr) (l : Label) (s : State) : (goto op l s).epoch = s.epoch := rfl

/-! ### finish -/

@[simp] theorem finish_divisor (r : Option Result) (s : State) : (finish r s).divisor = s.divisor := rfl
@[simp] theorem finish_seq (r : Option Result) (s : State) : (finish r s).seq = .ready := rfl
@[simp] theorem finish_locals (r : Option Result) (s : State) : (finish r s).locals = s.locals := rfl
@[simp] theorem finish_ret (r : Option Result) (s : State) : (finish r s).ret = r := rfl
@[simp] theorem finish_fault (r : Option Result) (s : State) : (finish r s).fault = s.fault := rfl
@[simp] theorem finish_faultAt (r : Option Result) (s : State) : (finish r s).faultAt = s.faultAt := rfl
@[simp] theorem finish_refused (r : Option Result) (s : State) : (finish r s).refused = s.refused := rfl
@[simp] theorem finish_twbr (r : Option Result) (s : State) : (finish r s).twbr = s.twbr := rfl
@[simp] theorem finish_twsrRd (r : Option Result) (s : State) : (finish r s).twsrRd = s.twsrRd := rfl
@[simp] theorem finish_twsrWr (r : Option Result) (s : State) : (finish r s).twsrWr = s.twsrWr := rfl
@[simp] theorem finish_twdr (r : Option Result) (s : State) : (finish r s).twdr = s.twdr := rfl
@[simp] theorem finish_twcrWr (r : Option Result) (s : State) : (finish r s).twcrWr = s.twcrWr := rfl
@[simp] theorem finish_intFlag (r : Option Result) (s : State) : (finish r s).intFlag = s.intFlag := rfl
@[simp] theorem finish_busy (r : Option Result) (s : State) : (finish r s).busy = s.busy := rfl
@[simp] theorem finish_pending (r : Option Result) (s : State) : (finish r s).pending = s.pending := rfl
@[simp] theorem finish_phase (r : Option Result) (s : State) : (finish r s).phase = s.phase := rfl
@[simp] theorem finish_freq (r : Option Result) (s : State) : (finish r s).freq = s.freq := rfl
@[simp] theorem finish_data (r : Option Result) (s : State) : (finish r s).data = s.data := rfl
@[simp] theorem finish_buf (r : Option Result) (s : State) : (finish r s).buf = s.buf := rfl
@[simp] theorem finish_returned (r : Option Result) (s : State) : (finish r s).returned = s.returned := rfl
@[simp] theorem finish_calls (r : Option Result) (s : State) : (finish r s).calls = s.calls := rfl
@[simp] theorem finish_script (r : Option Result) (s : State) : (finish r s).script = s.script := rfl
@[simp] theorem finish_tick (r : Option Result) (s : State) : (finish r s).tick = s.tick := rfl
@[simp] theorem finish_epoch (r : Option Result) (s : State) : (finish r s).epoch = s.epoch := rfl

/-! ### setPhase -/

@[simp] theorem setPhase_divisor (p : Phase) (s : State) : (setPhase p s).divisor = s.divisor := rfl
@[simp] theorem setPhase_seq (p : Phase) (s : State) : (setPhase p s).seq = s.seq := rfl
@[simp] theorem setPhase_locals (p : Phase) (s : State) : (setPhase p s).locals = s.locals := rfl
@[simp] theorem setPhase_ret (p : Phase) (s : State) : (setPhase p s).ret = s.ret := rfl
@[simp] theorem setPhase_fault (p : Phase) (s : State) : (setPhase p s).fault = s.fault := rfl
@[simp] theorem setPhase_faultAt (p : Phase) (s : State) : (setPhase p s).faultAt = s.faultAt := rfl
@[simp] theorem setPhase_refused (p : Phase) (s : State) : (setPhase p s).refused = s.refused := rfl
@[simp] theorem setPhase_twbr (p : Phase) (s : State) : (setPhase p s).twbr = s.twbr := rfl
@[simp] theorem setPhase_twsrRd (p : Phase) (s : State) : (setPhase p s).twsrRd = s.twsrRd := rfl
@[simp] theorem setPhase_twsrWr (p : Phase) (s : State) : (setPhase p s).twsrWr = s.twsrWr := rfl
@[simp] theorem setPhase_twdr (p : Phase) (s : State) : (setPhase p s).twdr = s.twdr := rfl
@[simp] theorem setPhase_twcrWr (p : Phase) (s : State) : (setPhase p s).twcrWr = s.twcrWr := rfl
@[simp] theorem setPhase_intFlag (p : Phase) (s : State) : (setPhase p s).intFlag = s.intFlag := rfl
@[simp] theorem setPhase_busy (p : Phase) (s : State) : (setPhase p s).busy = s.busy := rfl
@[simp] theorem setPhase_pending (p : Phase) (s : State) : (setPhase p s).pending = s.pending := rfl
@[simp] theorem setPhase_phase (p : Phase) (s : State) : (setPhase p s).phase = p := rfl
@[simp] theorem setPhase_freq (p : Phase) (s : State) : (setPhase p s).freq = s.freq := rfl
@[simp] theorem setPhase_data (p : Phase) (s : State) : (setPhase p s).data = s.data := rfl
@[simp] theorem setPhase_buf (p : Phase) (s : State) : (setPhase p s).buf = s.buf := rfl
@[simp] theorem setPhase_returned (p : Phase) (s : State) : (setPhase p s).returned = s.returned := rfl
@[simp] theorem setPhase_calls (p : Phase) (s : State) : (setPhase p s).calls = s.calls := rfl
@[simp] theorem setPhase_script (p : Phase) (s : State) : (setPhase p s).script = s.script := rfl
@[simp] theorem setPhase_tick (p : Phase) (s : State) : (setPhase p s).tick = s.tick := rfl
@[simp] theorem setPhase_epoch (p : Phase) (s : State) : (setPhase p s).epoch = s.epoch := rfl

/-! ### refuse -/

@[simp] theorem refuse_divisor (r : Reason) (s : State) : (refuse r s).divisor = s.divisor := rfl
@[simp] theorem refuse_seq (r : Reason) (s : State) : (refuse r s).seq = .refused := rfl
@[simp] theorem refuse_locals (r : Reason) (s : State) : (refuse r s).locals = s.locals := rfl
@[simp] theorem refuse_ret (r : Reason) (s : State) : (refuse r s).ret = s.ret := rfl
@[simp] theorem refuse_fault (r : Reason) (s : State) : (refuse r s).fault = s.fault := rfl
@[simp] theorem refuse_faultAt (r : Reason) (s : State) : (refuse r s).faultAt = s.faultAt := rfl
@[simp] theorem refuse_refused (r : Reason) (s : State) : (refuse r s).refused = some r := rfl
@[simp] theorem refuse_twbr (r : Reason) (s : State) : (refuse r s).twbr = s.twbr := rfl
@[simp] theorem refuse_twsrRd (r : Reason) (s : State) : (refuse r s).twsrRd = s.twsrRd := rfl
@[simp] theorem refuse_twsrWr (r : Reason) (s : State) : (refuse r s).twsrWr = s.twsrWr := rfl
@[simp] theorem refuse_twdr (r : Reason) (s : State) : (refuse r s).twdr = s.twdr := rfl
@[simp] theorem refuse_twcrWr (r : Reason) (s : State) : (refuse r s).twcrWr = s.twcrWr := rfl
@[simp] theorem refuse_intFlag (r : Reason) (s : State) : (refuse r s).intFlag = s.intFlag := rfl
@[simp] theorem refuse_busy (r : Reason) (s : State) : (refuse r s).busy = s.busy := rfl
@[simp] theorem refuse_pending (r : Reason) (s : State) : (refuse r s).pending = s.pending := rfl
@[simp] theorem refuse_phase (r : Reason) (s : State) : (refuse r s).phase = s.phase := rfl
@[simp] theorem refuse_freq (r : Reason) (s : State) : (refuse r s).freq = s.freq := rfl
@[simp] theorem refuse_data (r : Reason) (s : State) : (refuse r s).data = s.data := rfl
@[simp] theorem refuse_buf (r : Reason) (s : State) : (refuse r s).buf = s.buf := rfl
@[simp] theorem refuse_returned (r : Reason) (s : State) : (refuse r s).returned = s.returned := rfl
@[simp] theorem refuse_calls (r : Reason) (s : State) : (refuse r s).calls = s.calls := rfl
@[simp] theorem refuse_script (r : Reason) (s : State) : (refuse r s).script = s.script := rfl
@[simp] theorem refuse_tick (r : Reason) (s : State) : (refuse r s).tick = s.tick := rfl
@[simp] theorem refuse_epoch (r : Reason) (s : State) : (refuse r s).epoch = s.epoch := rfl

/-! ### raiseUnknownStatus -/

@[simp] theorem raiseUnknownStatus_divisor (raw : Byte) (s : State) : (raiseUnknownStatus raw s).divisor = s.divisor := rfl
@[simp] theorem raiseUnknownStatus_seq (raw : Byte) (s : State) : (raiseUnknownStatus raw s).seq = .faulted := rfl
@[simp] theorem raiseUnknownStatus_locals (raw : Byte) (s : State) : (raiseUnknownStatus raw s).locals = s.locals := rfl
@[simp] theorem raiseUnknownStatus_ret (raw : Byte) (s : State) : (raiseUnknownStatus raw s).ret = s.ret := rfl
@[simp] theorem raiseUnknownStatus_fault (raw : Byte) (s : State) : (raiseUnknownStatus raw s).fault = some raw := rfl
@[simp] theorem raiseUnknownStatus_faultAt (raw : Byte) (s : State) : (raiseUnknownStatus raw s).faultAt = position s := rfl
@[simp] theorem raiseUnknownStatus_refused (raw : Byte) (s : State) : (raiseUnknownStatus raw s).refused = s.refused := rfl
@[simp] theorem raiseUnknownStatus_twbr (raw : Byte) (s : State) : (raiseUnknownStatus raw s).twbr = s.twbr := rfl
@[simp] theorem raiseUnknownStatus_twsrRd (raw : Byte) (s : State) : (raiseUnknownStatus raw s).twsrRd = s.twsrRd := rfl
@[simp] theorem raiseUnknownStatus_twsrWr (raw : Byte) (s : State) : (raiseUnknownStatus raw s).twsrWr = s.twsrWr := rfl
@[simp] theorem raiseUnknownStatus_twdr (raw : Byte) (s : State) : (raiseUnknownStatus raw s).twdr = s.twdr := rfl
@[simp] theorem raiseUnknownStatus_twcrWr (raw : Byte) (s : State) : (raiseUnknownStatus raw s).twcrWr = s.twcrWr := rfl
@[simp] theorem raiseUnknownStatus_intFlag (raw : Byte) (s : State) : (raiseUnknownStatus raw s).intFlag = s.intFlag := rfl
@[simp] theorem raiseUnknownStatus_busy (raw : Byte) (s : State) : (raiseUnknownStatus raw s).busy = s.busy := rfl
@[simp] theorem raiseUnknownStatus_pending (raw : Byte) (s : State) : (raiseUnknownStatus raw s).pending = s.pending := rfl
@[simp] theorem raiseUnknownStatus_phase (raw : Byte) (s : State) : (raiseUnknownStatus raw s).phase = s.phase := rfl
@[simp] theorem raiseUnknownStatus_freq (raw : Byte) (s : State) : (raiseUnknownStatus raw s).freq = s.freq := rfl
@[simp] theorem raiseUnknownStatus_data (raw : Byte) (s : State) : (raiseUnknownStatus raw s).data = s.data := rfl
@[simp] theorem raiseUnknownStatus_buf (raw : Byte) (s : State) : (raiseUnknownStatus raw s).buf = s.buf := rfl
@[simp] theorem raiseUnknownStatus_returned (raw : Byte) (s : State) : (raiseUnknownStatus raw s).returned = s.returned := rfl
@[simp] theorem raiseUnknownStatus_calls (raw : Byte) (s : State) : (raiseUnknownStatus raw s).calls = s.calls := rfl
@[simp] theorem raiseUnknownStatus_script (raw : Byte) (s : State) : (raiseUnknownStatus raw s).script = s.script := rfl
@[simp] theorem raiseUnknownStatus_tick (raw : Byte) (s : State) : (raiseUnknownStatus raw s).tick = s.tick := rfl
@[simp] theorem raiseUnknownStatus_epoch (raw : Byte) (s : State) : (raiseUnknownStatus raw s).epoch = s.epoch := rfl

/-! ### enter -/

@[simp] theorem enter_divisor (op : Instr) (l : Label) (s : State) : (enter op l s).divisor = s.divisor := rfl
@[simp] theorem enter_seq (op : Instr) (l : Label) (s : State) : (enter op l s).seq = .run op l := rfl
@[simp] theorem enter_locals (op : Instr) (l : Label) (s : State) : (enter op l s).locals = s.locals := rfl
@[simp] theorem enter_ret (op : Instr) (l : Label) (s : State) : (enter op l s).ret = none := rfl
@[simp] theorem enter_fault (op : Instr) (l : Label) (s : State) : (enter op l s).fault = s.fault := rfl
@[simp] theorem enter_faultAt (op : Instr) (l : Label) (s : State) : (enter op l s).faultAt = s.faultAt := rfl
@[simp] theorem enter_refused (op : Instr) (l : Label) (s : State) : (enter op l s).refused = s.refused := rfl
@[simp] theorem enter_twbr (op : Instr) (l : Label) (s : State) : (enter op l s).twbr = s.twbr := rfl
@[simp] theorem enter_twsrRd (op : Instr) (l : Label) (s : State) : (enter op l s).twsrRd = s.twsrRd := rfl
@[simp] theorem enter_twsrWr (op : Instr) (l : Label) (s : State) : (enter op l s).twsrWr = s.twsrWr := rfl
@[simp] theorem enter_twdr (op : Instr) (l : Label) (s : State) : (enter op l s).twdr = s.twdr := rfl
@[simp] theorem enter_twcrWr (op : Instr) (l : Label) (s : State) : (enter op l s).twcrWr = s.twcrWr := rfl
@[simp] theorem enter_intFlag (op : Instr) (l : Label) (s : State) : (enter op l s).intFlag = s.intFlag := rfl
@[simp] theorem enter_busy (op : Instr) (l : Label) (s : State) : (enter op l s).busy = s.busy := rfl
@[simp] theorem enter_pending (op : Instr) (l : Label) (s : State) : (enter op l s).pending = s.pending := rfl
@[simp] theorem enter_phase (op : Instr) (l : Label) (s : State) : (enter op l s).phase = s.phase := rfl
@[simp] theorem enter_freq (op : Instr) (l : Label) (s : State) : (enter op l s).freq = s.freq := rfl
@[simp] theorem enter_data (op : Instr) (l : Label) (s : State) : (enter op l s).data = s.data := rfl
@[simp] theorem enter_buf (op : Instr) (l : Label) (s : State) : (enter op l s).buf = s.buf := rfl
@[simp] theorem enter_returned (op : Instr) (l : Label) (s : State) : (enter op l s).returned = s.returned := rfl
@[simp] theorem enter_calls (op : Instr) (l : Label) (s : State) : (enter op l s).calls = s.calls := rfl
@[simp] theorem enter_script (op : Instr) (l : Label) (s : State) : (enter op l s).script = s.script := rfl
@[simp] theorem enter_tick (op : Instr) (l : Label) (s : State) : (enter op l s).tick = s.tick := rfl
@[simp] theorem enter_epoch (op : Instr) (l : Label) (s : State) : (enter op l s).epoch = s.epoch := rfl

/-! ### noteStatus -/

@[simp] theorem noteStatus_divisor (raw : Byte) (s : State) : (noteStatus raw s).divisor = s.divisor := rfl
@[simp] theorem noteStatus_seq (raw : Byte) (s : State) : (noteStatus raw s).seq = s.seq := rfl
@[simp] theorem noteStatus_locals (raw : Byte) (s : State) : (noteStatus raw s).locals = { s.locals with raw := raw, status := decodeStatus raw } := rfl
@[simp] theorem noteStatus_ret (raw : Byte) (s : State) : (noteStatus raw s).ret = s.ret := rfl
@[simp] theorem noteStatus_fault (raw : Byte) (s : State) : (noteStatus raw s).fault = s.fault := rfl
@[simp] theorem noteStatus_faultAt (raw : Byte) (s : State) : (noteStatus raw s).faultAt = s.faultAt := rfl
@[simp] theorem noteStatus_refused (raw : Byte) (s : State) : (noteStatus raw s).refused = s.refused := rfl
@[simp] theorem noteStatus_twbr (raw : Byte) (s : State) : (noteStatus raw s).twbr = s.twbr := rfl
@[simp] theorem noteStatus_twsrRd (raw : Byte) (s : State) : (noteStatus raw s).twsrRd = s.twsrRd := rfl
@[simp] theorem noteStatus_twsrWr (raw : Byte) (s : State) : (noteStatus raw s).twsrWr = s.twsrWr := rfl
@[simp] theorem noteStatus_twdr (raw : Byte) (s : State) : (noteStatus raw s).twdr = s.twdr := rfl
@[simp] theorem noteStatus_twcrWr (raw : Byte) (s : State) : (noteStatus raw s).twcrWr = s.twcrWr := rfl
@[simp] theorem noteStatus_intFlag (raw : Byte) (s : State) : (noteStatus raw s).intFlag = s.intFlag := rfl
@[simp] theorem noteStatus_busy (raw : Byte) (s : State) : (noteStatus raw s).busy = s.busy := rfl
@[simp] theorem noteStatus_pending (raw : Byte) (s : State) : (noteStatus raw s).pending = s.pending := rfl
@[simp] theorem noteStatus_phase (raw : Byte) (s : State) : (noteStatus raw s).phase = s.phase := rfl
@[simp] theorem noteStatus_freq (raw : Byte) (s : State) : (noteStatus raw s).freq = s.freq := rfl
@[simp] theorem noteStatus_data (raw : Byte) (s : State) : (noteStatus raw s).data = s.data := rfl
@[simp] theorem noteStatus_buf (raw : Byte) (s : State) : (noteStatus raw s).buf = s.buf := rfl
@[simp] theorem noteStatus_returned (raw : Byte) (s : State) : (noteStatus raw s).returned = s.returned := rfl
@[simp] theorem noteStatus_calls (raw : Byte) (s : State) : (noteStatus raw s).calls = s.calls := rfl
@[simp] theorem noteStatus_script (raw : Byte) (s : State) : (noteStatus raw s).script = s.script := rfl
@[simp] theorem noteStatus_tick (raw : Byte) (s : State) : (noteStatus raw s).tick = s.tick := rfl
@[simp] theorem noteStatus_epoch (raw : Byte) (s : State) : (noteStatus raw s).epoch = s.epoch := rfl

/-! ### advanceIndex -/

@[simp] theorem advanceIndex_divisor (s : State) : (advanceIndex s).divisor = s.divisor := rfl
@[simp] theorem advanceIndex_seq (s : State) : (advanceIndex s).seq = s.seq := rfl
@[simp] theorem advanceIndex_locals (s : State) : (advanceIndex s).locals = { s.locals with i := s.locals.i + 1 } := rfl
@[simp] theorem advanceIndex_ret (s : State) : (advanceIndex s).ret = s.ret := rfl
@[simp] theorem advanceIndex_fault (s : State) : (advanceIndex s).fault = s.fault := rfl
@[simp] theorem advanceIndex_faultAt (s : State) : (advanceIndex s).faultAt = s.faultAt := rfl
@[simp] theorem advanceIndex_refused (s : State) : (advanceIndex s).refused = s.refused := rfl
@[simp] theorem advanceIndex_twbr (s : State) : (advanceIndex s).twbr = s.twbr := rfl
@[simp] theorem advanceIndex_twsrRd (s : State) : (advanceIndex s).twsrRd = s.twsrRd := rfl
@[simp] theorem advanceIndex_twsrWr (s : State) : (advanceIndex s).twsrWr = s.twsrWr := rfl
@[simp] theorem advanceIndex_twdr (s : State) : (advanceIndex s).twdr = s.twdr := rfl
@[simp] theorem advanceIndex_twcrWr (s : State) : (advanceIndex s).twcrWr = s.twcrWr := rfl
@[simp] theorem advanceIndex_intFlag (s : State) : (advanceIndex s).intFlag = s.intFlag := rfl
@[simp] theorem advanceIndex_busy (s : State) : (advanceIndex s).busy = s.busy := rfl
@[simp] theorem advanceIndex_pending (s : State) : (advanceIndex s).pending = s.pending := rfl
@[simp] theorem advanceIndex_phase (s : State) : (advanceIndex s).phase = s.phase := rfl
@[simp] theorem advanceIndex_freq (s : State) : (advanceIndex s).freq = s.freq := rfl
@[simp] theorem advanceIndex_data (s : State) : (advanceIndex s).data = s.data := rfl
@[simp] theorem advanceIndex_buf (s : State) : (advanceIndex s).buf = s.buf := rfl
@[simp] theorem advanceIndex_returned (s : State) : (advanceIndex s).returned = s.returned := rfl
@[simp] theorem advanceIndex_calls (s : State) : (advanceIndex s).calls = s.calls := rfl
@[simp] theorem advanceIndex_script (s : State) : (advanceIndex s).script = s.script := rfl
@[simp] theorem advanceIndex_tick (s : State) : (advanceIndex s).tick = s.tick := rfl
@[simp] theorem advanceIndex_epoch (s : State) : (advanceIndex s).epoch = s.epoch := rfl

/-! ### storeSlot -/

@[simp] theorem storeSlot_divisor (v : Byte) (s : State) : (storeSlot v s).divisor = s.divisor := rfl
@[simp] theorem storeSlot_seq (v : Byte) (s : State) : (storeSlot v s).seq = s.seq := rfl
@[simp] theorem storeSlot_locals (v : Byte) (s : State) : (storeSlot v s).locals = s.locals := rfl
@[simp] theorem storeSlot_ret (v : Byte) (s : State) : (storeSlot v s).ret = s.ret := rfl
@[simp] theorem storeSlot_fault (v : Byte) (s : State) : (storeSlot v s).fault = s.fault := rfl
@[simp] theorem storeSlot_faultAt (v : Byte) (s : State) : (storeSlot v s).faultAt = s.faultAt := rfl
@[simp] theorem storeSlot_refused (v : Byte) (s : State) : (storeSlot v s).refused = s.refused := rfl
@[simp] theorem storeSlot_twbr (v : Byte) (s : State) : (storeSlot v s).twbr = s.twbr := rfl
@[simp] theorem storeSlot_twsrRd (v : Byte) (s : State) : (storeSlot v s).twsrRd = s.twsrRd := rfl
@[simp] theorem storeSlot_twsrWr (v : Byte) (s : State) : (storeSlot v s).twsrWr = s.twsrWr := rfl
@[simp] theorem storeSlot_twdr (v : Byte) (s : State) : (storeSlot v s).twdr = s.twdr := rfl
@[simp] theorem storeSlot_twcrWr (v : Byte) (s : State) : (storeSlot v s).twcrWr = s.twcrWr := rfl
@[simp] theorem storeSlot_intFlag (v : Byte) (s : State) : (storeSlot v s).intFlag = s.intFlag := rfl
@[simp] theorem storeSlot_busy (v : Byte) (s : State) : (storeSlot v s).busy = s.busy := rfl
@[simp] theorem storeSlot_pending (v : Byte) (s : State) : (storeSlot v s).pending = s.pending := rfl
@[simp] theorem storeSlot_phase (v : Byte) (s : State) : (storeSlot v s).phase = s.phase := rfl
@[simp] theorem storeSlot_freq (v : Byte) (s : State) : (storeSlot v s).freq = s.freq := rfl
@[simp] theorem storeSlot_data (v : Byte) (s : State) : (storeSlot v s).data = s.data := rfl
@[simp] theorem storeSlot_buf (v : Byte) (s : State) : (storeSlot v s).buf = s.buf.set s.locals.i v := rfl
@[simp] theorem storeSlot_returned (v : Byte) (s : State) : (storeSlot v s).returned = s.returned := rfl
@[simp] theorem storeSlot_calls (v : Byte) (s : State) : (storeSlot v s).calls = s.calls := rfl
@[simp] theorem storeSlot_script (v : Byte) (s : State) : (storeSlot v s).script = s.script := rfl
@[simp] theorem storeSlot_tick (v : Byte) (s : State) : (storeSlot v s).tick = s.tick := rfl
@[simp] theorem storeSlot_epoch (v : Byte) (s : State) : (storeSlot v s).epoch = s.epoch := rfl

/-! ### presentSlots -/

@[simp] theorem presentSlots_divisor (slots : List Byte) (s : State) : (presentSlots slots s).divisor = s.divisor := rfl
@[simp] theorem presentSlots_seq (slots : List Byte) (s : State) : (presentSlots slots s).seq = s.seq := rfl
@[simp] theorem presentSlots_locals (slots : List Byte) (s : State) : (presentSlots slots s).locals = s.locals := rfl
@[simp] theorem presentSlots_ret (slots : List Byte) (s : State) : (presentSlots slots s).ret = s.ret := rfl
@[simp] theorem presentSlots_fault (slots : List Byte) (s : State) : (presentSlots slots s).fault = s.fault := rfl
@[simp] theorem presentSlots_faultAt (slots : List Byte) (s : State) : (presentSlots slots s).faultAt = s.faultAt := rfl
@[simp] theorem presentSlots_refused (slots : List Byte) (s : State) : (presentSlots slots s).refused = s.refused := rfl
@[simp] theorem presentSlots_twbr (slots : List Byte) (s : State) : (presentSlots slots s).twbr = s.twbr := rfl
@[simp] theorem presentSlots_twsrRd (slots : List Byte) (s : State) : (presentSlots slots s).twsrRd = s.twsrRd := rfl
@[simp] theorem presentSlots_twsrWr (slots : List Byte) (s : State) : (presentSlots slots s).twsrWr = s.twsrWr := rfl
@[simp] theorem presentSlots_twdr (slots : List Byte) (s : State) : (presentSlots slots s).twdr = s.twdr := rfl
@[simp] theorem presentSlots_twcrWr (slots : List Byte) (s : State) : (presentSlots slots s).twcrWr = s.twcrWr := rfl
@[simp] theorem presentSlots_intFlag (slots : List Byte) (s : State) : (presentSlots slots s).intFlag = s.intFlag := rfl
@[simp] theorem presentSlots_busy (slots : List Byte) (s : State) : (presentSlots slots s).busy = s.busy := rfl
@[simp] theorem presentSlots_pending (slots : List Byte) (s : State) : (presentSlots slots s).pending = s.pending := rfl
@[simp] theorem presentSlots_phase (slots : List Byte) (s : State) : (presentSlots slots s).phase = s.phase := rfl
@[simp] theorem presentSlots_freq (slots : List Byte) (s : State) : (presentSlots slots s).freq = s.freq := rfl
@[simp] theorem presentSlots_data (slots : List Byte) (s : State) : (presentSlots slots s).data = s.data := rfl
@[simp] theorem presentSlots_buf (slots : List Byte) (s : State) : (presentSlots slots s).buf = slots := rfl
@[simp] theorem presentSlots_returned (slots : List Byte) (s : State) : (presentSlots slots s).returned = if s.buf = [] then s.returned else s.returned ++ [s.buf] := rfl
@[simp] theorem presentSlots_calls (slots : List Byte) (s : State) : (presentSlots slots s).calls = s.calls := rfl
@[simp] theorem presentSlots_script (slots : List Byte) (s : State) : (presentSlots slots s).script = s.script := rfl
@[simp] theorem presentSlots_tick (slots : List Byte) (s : State) : (presentSlots slots s).tick = s.tick := rfl
@[simp] theorem presentSlots_epoch (slots : List Byte) (s : State) : (presentSlots slots s).epoch = s.epoch := rfl

/-! ### complete -/

@[simp] theorem complete_divisor (st d : Byte) (s : State) : (complete st d s).divisor = s.divisor := rfl
@[simp] theorem complete_seq (st d : Byte) (s : State) : (complete st d s).seq = s.seq := rfl
@[simp] theorem complete_locals (st d : Byte) (s : State) : (complete st d s).locals = s.locals := rfl
@[simp] theorem complete_ret (st d : Byte) (s : State) : (complete st d s).ret = s.ret := rfl
@[simp] theorem complete_fault (st d : Byte) (s : State) : (complete st d s).fault = s.fault := rfl
@[simp] theorem complete_faultAt (st d : Byte) (s : State) : (complete st d s).faultAt = s.faultAt := rfl
@[simp] theorem complete_refused (st d : Byte) (s : State) : (complete st d s).refused = s.refused := rfl
@[simp] theorem complete_twbr (st d : Byte) (s : State) : (complete st d s).twbr = s.twbr := rfl
@[simp] theorem complete_twsrRd (st d : Byte) (s : State) : (complete st d s).twsrRd = st := rfl
@[simp] theorem complete_twsrWr (st d : Byte) (s : State) : (complete st d s).twsrWr = s.twsrWr := rfl
@[simp] theorem complete_twdr (st d : Byte) (s : State) : (complete st d s).twdr = d := rfl
@[simp] theorem complete_twcrWr (st d : Byte) (s : State) : (complete st d s).twcrWr = s.twcrWr := rfl
@[simp] theorem complete_intFlag (st d : Byte) (s : State) : (complete st d s).intFlag = true := rfl
@[simp] theorem complete_busy (st d : Byte) (s : State) : (complete st d s).busy = false := rfl
@[simp] theorem complete_pending (st d : Byte) (s : State) : (complete st d s).pending = none := rfl
@[simp] theorem complete_phase (st d : Byte) (s : State) : (complete st d s).phase = s.phase := rfl
@[simp] theorem complete_freq (st d : Byte) (s : State) : (complete st d s).freq = s.freq := rfl
@[simp] theorem complete_data (st d : Byte) (s : State) : (complete st d s).data = s.data := rfl
@[simp] theorem complete_buf (st d : Byte) (s : State) : (complete st d s).buf = s.buf := rfl
@[simp] theorem complete_returned (st d : Byte) (s : State) : (complete st d s).returned = s.returned := rfl
@[simp] theorem complete_calls (st d : Byte) (s : State) : (complete st d s).calls = s.calls := rfl
@[simp] theorem complete_script (st d : Byte) (s : State) : (complete st d s).script = s.script := rfl
@[simp] theorem complete_tick (st d : Byte) (s : State) : (complete st d s).tick = s.tick := rfl
@[simp] theorem complete_epoch (st d : Byte) (s : State) : (complete st d s).epoch = s.epoch + 1 := rfl

/-! ### headerSetup -/

@[simp] theorem headerSetup_divisor (a : Byte) (dir : Direction) (s : State) : (headerSetup a dir s).divisor = s.divisor := rfl
@[simp] theorem headerSetup_seq (a : Byte) (dir : Direction) (s : State) : (headerSetup a dir s).seq = s.seq := rfl
@[simp] theorem headerSetup_locals (a : Byte) (dir : Direction) (s : State) : (headerSetup a dir s).locals = { s.locals with payload := headerPayload a dir, expected := headerExpected dir } := rfl
@[simp] theorem headerSetup_ret (a : Byte) (dir : Direction) (s : State) : (headerSetup a dir s).ret = s.ret := rfl
@[simp] theorem headerSetup_fault (a : Byte) (dir : Direction) (s : State) : (headerSetup a dir s).fault = s.fault := rfl
@[simp] theorem headerSetup_faultAt (a : Byte) (dir : Direction) (s : State) : (headerSetup a dir s).faultAt = s.faultAt := rfl
@[simp] theorem headerSetup_refused (a : Byte) (dir : Direction) (s : State) : (headerSetup a dir s).refused = s.refused := rfl
@[simp] theorem headerSetup_twbr (a : Byte) (dir : Direction) (s : State) : (headerSetup a dir s).twbr = s.twbr := rfl
@[simp] theorem headerSetup_twsrRd (a : Byte) (dir : Direction) (s : State) : (headerSetup a dir s).twsrRd = s.twsrRd := rfl
@[simp] theorem headerSetup_twsrWr (a : Byte) (dir : Direction) (s : State) : (headerSetup a dir s).twsrWr = s.twsrWr := rfl
@[simp] theorem headerSetup_twdr (a : Byte) (dir : Direction) (s : State) : (headerSetup a dir s).twdr = s.twdr := rfl
@[simp] theorem headerSetup_twcrWr (a : Byte) (dir : Direction) (s : State) : (headerSetup a dir s).twcrWr = s.twcrWr := rfl
@[simp] theorem headerSetup_intFlag (a : Byte) (dir : Direction) (s : State) : (headerSetup a dir s).intFlag = s.intFlag := rfl
@[simp] theorem headerSetup_busy (a : Byte) (dir : Direction) (s : State) : (headerSetup a dir s).busy = s.busy := rfl
@[simp] theorem headerSetup_pending (a : Byte) (dir : Direction) (s : State) : (headerSetup a dir s).pending = s.pending := rfl
@[simp] theorem headerSetup_phase (a : Byte) (dir : Direction) (s : State) : (headerSetup a dir s).phase = .headerPending := rfl
@[simp] theorem headerSetup_freq (a : Byte) (dir : Direction) (s : State) : (headerSetup a dir s).freq = s.freq := rfl
@[simp] theorem headerSetup_data (a : Byte) (dir : Direction) (s : State) : (headerSetup a dir s).data = s.data := rfl
@[simp] theorem headerSetup_buf (a : Byte) (dir : Direction) (s : State) : (headerSetup a dir s).buf = s.buf := rfl
@[simp] theorem headerSetup_returned (a : Byte) (dir : Direction) (s : State) : (headerSetup a dir s).returned = s.returned := rfl
@[simp] theorem headerSetup_calls (a : Byte) (dir : Direction) (s : State) : (headerSetup a dir s).calls = s.calls := rfl
@[simp] theorem headerSetup_script (a : Byte) (dir : Direction) (s : State) : (headerSetup a dir s).script = s.script := rfl
@[simp] theorem headerSetup_tick (a : Byte) (dir : Direction) (s : State) : (headerSetup a dir s).tick = s.tick := rfl
@[simp] theorem headerSetup_epoch (a : Byte) (dir : Direction) (s : State) : (headerSetup a dir s).epoch = s.epoch := rfl

/-! ### sendSetup -/

@[simp] theorem sendSetup_divisor (s : State) : (sendSetup s).divisor = s.divisor := rfl
@[simp] theorem sendSetup_seq (s : State) : (sendSetup s).seq = s.seq := rfl
@[simp] theorem sendSetup_locals (s : State) : (sendSetup s).locals = { s.locals with i := 0, n := s.data.length } := rfl
@[simp] theorem sendSetup_ret (s : State) : (sendSetup s).ret = s.ret := rfl
@[simp] theorem sendSetup_fault (s : State) : (sendSetup s).fault = s.fault := rfl
@[simp] theorem sendSetup_faultAt (s : State) : (sendSetup s).faultAt = s.faultAt := rfl
@[simp] theorem sendSetup_refused (s : State) : (sendSetup s).refused = s.refused := rfl
@[simp] theorem sendSetup_twbr (s : State) : (sendSetup s).twbr = s.twbr := rfl
@[simp] theorem sendSetup_twsrRd (s : State) : (sendSetup s).twsrRd = s.twsrRd := rfl
@[simp] theorem sendSetup_twsrWr (s : State) : (sendSetup s).twsrWr = s.twsrWr := rfl
@[simp] theorem sendSetup_twdr (s : State) : (sendSetup s).twdr = s.twdr := rfl
@[simp] theorem sendSetup_twcrWr (s : State) : (sendSetup s).twcrWr = s.twcrWr := rfl
@[simp] theorem sendSetup_intFlag (s : State) : (sendSetup s).intFlag = s.intFlag := rfl
@[simp] theorem sendSetup_busy (s : State) : (sendSetup s).busy = s.busy := rfl
@[simp] theorem sendSetup_pending (s : State) : (sendSetup s).pending = s.pending := rfl
@[simp] theorem sendSetup_phase (s : State) : (sendSetup s).phase = .sendPending := rfl
@[simp] theorem sendSetup_freq (s : State) : (sendSetup s).freq = s.freq := rfl
@[simp] theorem sendSetup_data (s : State) : (sendSetup s).data = s.data := rfl
@[simp] theorem sendSetup_buf (s : State) : (sendSetup s).buf = s.buf := rfl
@[simp] theorem sendSetup_returned (s : State) : (sendSetup s).returned = s.returned := rfl
@[simp] theorem sendSetup_calls (s : State) : (sendSetup s).calls = s.calls := rfl
@[simp] theorem sendSetup_script (s : State) : (sendSetup s).script = s.script := rfl
@[simp] theorem sendSetup_tick (s : State) : (sendSetup s).tick = s.tick := rfl
@[simp] theorem sendSetup_epoch (s : State) : (sendSetup s).epoch = s.epoch := rfl

/-! ### readSetup -/

@[simp] theorem readSetup_divisor (e : Bool) (s : State) : (readSetup e s).divisor = s.divisor := rfl
@[simp] theorem readSetup_seq (e : Bool) (s : State) : (readSetup e s).seq = s.seq := rfl
@[simp] theorem readSetup_locals (e : Bool) (s : State) : (readSetup e s).locals = { s.locals with i := 0, n := s.buf.length, cmd := readCommand e, expected := readExpected e } := rfl
@[simp] theorem readSetup_ret (e : Bool) (s : State) : (readSetup e s).ret = s.ret := rfl
@[simp] theorem readSetup_fault (e : Bool) (s : State) : (readSetup e s).fault = s.fault := rfl
@[simp] theorem readSetup_faultAt (e : Bool) (s : State) : (readSetup e s).faultAt = s.faultAt := rfl
@[simp] theorem readSetup_refused (e : Bool) (s : State) : (readSetup e s).refused = s.refused := rfl
@[simp] theorem readSetup_twbr (e : Bool) (s : State) : (readSetup e s).twbr = s.twbr := rfl
@[simp] theorem readSetup_twsrRd (e : Bool) (s : State) : (readSetup e s).twsrRd = s.twsrRd := rfl
@[simp] theorem readSetup_twsrWr (e : Bool) (s : State) : (readSetup e s).twsrWr = s.twsrWr := rfl
@[simp] theorem readSetup_twdr (e : Bool) (s : State) : (readSetup e s).twdr = s.twdr := rfl
@[simp] theorem readSetup_twcrWr (e : Bool) (s : State) : (readSetup e s).twcrWr = s.twcrWr := rfl
@[simp] theorem readSetup_intFlag (e : Bool) (s : State) : (readSetup e s).intFlag = s.intFlag := rfl
@[simp] theorem readSetup_busy (e : Bool) (s : State) : (readSetup e s).busy = s.busy := rfl
@[simp] theorem readSetup_pending (e : Bool) (s : State) : (readSetup e s).pending = s.pending := rfl
@[simp] theorem readSetup_phase (e : Bool) (s : State) : (readSetup e s).phase = .receivePending := rfl
@[simp] theorem readSetup_freq (e : Bool) (s : State) : (readSetup e s).freq = s.freq := rfl
@[simp] theorem readSetup_data (e : Bool) (s : State) : (readSetup e s).data = s.data := rfl
@[simp] theorem readSetup_buf (e : Bool) (s : State) : (readSetup e s).buf = s.buf := rfl
@[simp] theorem readSetup_returned (e : Bool) (s : State) : (readSetup e s).returned = s.returned := rfl
@[simp] theorem readSetup_calls (e : Bool) (s : State) : (readSetup e s).calls = s.calls := rfl
@[simp] theorem readSetup_script (e : Bool) (s : State) : (readSetup e s).script = s.script := rfl
@[simp] theorem readSetup_tick (e : Bool) (s : State) : (readSetup e s).tick = s.tick := rfl
@[simp] theorem readSetup_epoch (e : Bool) (s : State) : (readSetup e s).epoch = s.epoch := rfl

/-! ### presentOperands -/

@[simp] theorem presentOperands_divisor (i : Instr) (c : Call) (s : State) : (presentOperands i c s).divisor = s.divisor := by
  cases i <;> rfl
@[simp] theorem presentOperands_seq (i : Instr) (c : Call) (s : State) : (presentOperands i c s).seq = s.seq := by
  cases i <;> rfl
@[simp] theorem presentOperands_locals (i : Instr) (c : Call) (s : State) : (presentOperands i c s).locals = s.locals := by
  cases i <;> rfl
@[simp] theorem presentOperands_ret (i : Instr) (c : Call) (s : State) : (presentOperands i c s).ret = s.ret := by
  cases i <;> rfl
@[simp] theorem presentOperands_fault (i : Instr) (c : Call) (s : State) : (presentOperands i c s).fault = s.fault := by
  cases i <;> rfl
@[simp] theorem presentOperands_faultAt (i : Instr) (c : Call) (s : State) : (presentOperands i c s).faultAt = s.faultAt := by
  cases i <;> rfl
@[simp] theorem presentOperands_refused (i : Instr) (c : Call) (s : State) : (presentOperands i c s).refused = s.refused := by
  cases i <;> rfl
@[simp] theorem presentOperands_twbr (i : Instr) (c : Call) (s : State) : (presentOperands i c s).twbr = s.twbr := by
  cases i <;> rfl
@[simp] theorem presentOperands_twsrRd (i : Instr) (c : Call) (s : State) : (presentOperands i c s).twsrRd = s.twsrRd := by
  cases i <;> rfl
@[simp] theorem presentOperands_twsrWr (i : Instr) (c : Call) (s : State) : (presentOperands i c s).twsrWr = s.twsrWr := by
  cases i <;> rfl
@[simp] theorem presentOperands_twdr (i : Instr) (c : Call) (s : State) : (presentOperands i c s).twdr = s.twdr := by
  cases i <;> rfl
@[simp] theorem presentOperands_twcrWr (i : Instr) (c : Call) (s : State) : (presentOperands i c s).twcrWr = s.twcrWr := by
  cases i <;> rfl
@[simp] theorem presentOperands_intFlag (i : Instr) (c : Call) (s : State) : (presentOperands i c s).intFlag = s.intFlag := by
  cases i <;> rfl
@[simp] theorem presentOperands_busy (i : Instr) (c : Call) (s : State) : (presentOperands i c s).busy = s.busy := by
  cases i <;> rfl
@[simp] theorem presentOperands_pending (i : Instr) (c : Call) (s : State) : (presentOperands i c s).pending = s.pending := by
  cases i <;> rfl
@[simp] theorem presentOperands_phase (i : Instr) (c : Call) (s : State) : (presentOperands i c s).phase = s.phase := by
  cases i <;> rfl
@[simp] theorem presentOperands_calls (i : Instr) (c : Call) (s : State) : (presentOperands i c s).calls = s.calls := by
  cases i <;> rfl
@[simp] theorem presentOperands_script (i : Instr) (c : Call) (s : State) : (presentOperands i c s).script = s.script := by
  cases i <;> rfl
@[simp] theorem presentOperands_tick (i : Instr) (c : Call) (s : State) : (presentOperands i c s).tick = s.tick := by
  cases i <;> rfl
@[simp] theorem presentOperands_epoch (i : Instr) (c : Call) (s : State) : (presentOperands i c s).epoch = s.epoch := by
  cases i <;> rfl

end Sys2Proof.Machine
end

