-- ==== Sys2Proof/Laws/Ops.lean ====
section
/-! SUPPORT. One lemma per shared operation: everything it can do, to be cited instead of unfolding it. -/

namespace Sys2Proof.Machine

/-! ## Outcomes -/

@[simp] theorem andThen_next (s : State) (k : State → StepOutcome) : andThen (.next s) k = k s := rfl
@[simp] theorem andThen_fault (f : Fault) (k : State → StepOutcome) : andThen (.fault f) k = .fault f := rfl
@[simp] theorem andThen_refused (r : Refusal) (k : State → StepOutcome) : andThen (.refused r) k = .refused r := rfl

/-- A sequence that answers a next state went through one. -/
theorem andThen_eq_next {o : StepOutcome} {k : State → StepOutcome} {t : State} (h : andThen o k = .next t) :
    ∃ u, o = .next u ∧ k u = .next t := by
  cases o with
  | next u => exact ⟨u, rfl, h⟩
  | fault f => cases h
  | refused r => cases h

/-! ## Control bytes -/

@[simp] theorem cmdEnableByte_eq : cmdEnableByte = 0x04#8 := rfl
@[simp] theorem cmdStartByte_eq : cmdStartByte = 0xA4#8 := rfl
@[simp] theorem cmdStopByte_eq : cmdStopByte = 0x94#8 := rfl
@[simp] theorem cmdXferByte_eq : cmdXferByte = 0x84#8 := rfl
@[simp] theorem cmdXferAckByte_eq : cmdXferAckByte = 0xC4#8 := rfl

/-- The polled flag is `int_flag` (R33). -/
@[simp] theorem completionFlag_eq (s : State) : completionFlag s = s.intFlag := rfl

/-- Bit 7 of a control read is `int_flag` (R62). -/
theorem controlReadByte_flag (s : State) : (controlReadByte s).getLsbD 7 = s.intFlag := by
  rw [controlReadByte, completionFlag_eq, BitVec.getLsbD_cons]; rfl

/-- A control write of a command byte (R61). -/
theorem writeTwcr_command {v : Byte} (h : isCommand v = true) (s : State) :
    writeTwcr v s =
      { s with
        twcrWr := some v, intFlag := false, busy := true, pending := some (v, s.twdr), epoch := s.epoch + 1 } := by
  simp [writeTwcr, h]

/-- A control write with bit 7 = 0 commands nothing (R61). -/
theorem writeTwcr_plain {v : Byte} (h : isCommand v = false) (s : State) :
    writeTwcr v s = { s with twcrWr := some v, epoch := s.epoch + 1 } := by
  simp [writeTwcr, h]

/-- A data write with the flag 1 (R59). -/
theorem writeTwdr_ready {s : State} (h : s.intFlag = true) (v : Byte) : writeTwdr v s = { s with twdr := v } := by
  simp [writeTwdr, h]

/-- A data write with the flag 0 leaves a free value (R59). -/
theorem writeTwdr_lost {s : State} (h : s.intFlag = false) (v : Byte) :
    writeTwdr v s = { s with twdr := Config.lostWrite s.tick, tick := s.tick + 1 } := by
  simp [writeTwdr, h]

/-! ## Register accesses by address -/

theorem memWrite_twbr (v : Byte) (s : State) : memWrite Config.twbrAddr v s = .next (writeTwbr v s) := rfl
theorem memWrite_twsr (v : Byte) (s : State) : memWrite Config.twsrAddr v s = .next (writeTwsr v s) := rfl
theorem memWrite_twdr (v : Byte) (s : State) : memWrite Config.twdrAddr v s = .next (writeTwdr v s) := rfl
theorem memWrite_twcr (v : Byte) (s : State) : memWrite Config.twcrAddr v s = .next (writeTwcr v s) := rfl
theorem memRead_twbr (s : State) : memRead Config.twbrAddr s = .ok s.twbr := rfl
theorem memRead_twsr (s : State) : memRead Config.twsrAddr s = .ok s.twsrRd := rfl
theorem memRead_twdr (s : State) : memRead Config.twdrAddr s = .ok s.twdr := rfl
theorem memRead_twcr (s : State) : memRead Config.twcrAddr s = .ok (controlReadByte s) := rfl

/-- What a read depends on: the four register views and nothing else. -/
theorem memRead_congr {s t : State} {a : Addr} (h1 : t.twbr = s.twbr) (h2 : t.twsrRd = s.twsrRd)
    (h3 : t.twdr = s.twdr) (h4 : t.intFlag = s.intFlag) (h5 : t.epoch = s.epoch) : memRead a t = memRead a s := by
  simp [memRead, controlReadByte, h1, h2, h3, h4, h5]

/-! ## Sequencer operations -/

/-- Writing the control register and going on is one next state (R61). -/
theorem issue_eq (v : Byte) (op : Instr) (l : Label) (s : State) :
    issue v op l s = .next (goto op l (writeTwcr v s)) := rfl

theorem awaitStep_done {s : State} (h : s.intFlag = true) (k : State → StepOutcome) : awaitStep k s = k s := by
  simp [awaitStep, h]

theorem awaitStep_held {s : State} (h : s.intFlag = false) (k : State → StepOutcome) : awaitStep k s = .next s := by
  simp [awaitStep, h]

theorem checkStatus_named {s : State} {st : BusStatus} (h : decodeStatus s.twsrRd = some st)
    (k : BusStatus → State → StepOutcome) : checkStatus k s = k st (noteStatus s.twsrRd s) := by
  simp [checkStatus, memRead_twsr, h]

theorem checkStatus_absent {s : State} (h : decodeStatus s.twsrRd = none) (k : BusStatus → State → StepOutcome) :
    checkStatus k s = .next (raiseUnknownStatus s.twsrRd (noteStatus s.twsrRd s)) := by
  simp [checkStatus, memRead_twsr, h]

theorem accept_none {s : State} (h : s.divisor = none) (op : Instr) (l : Label) (setup : State → State) :
    accept op l setup s = .next (refuse .noInstance s) := by
  simp [accept, h]

theorem accept_some {s : State} {d : Byte} (h : s.divisor = some d) (op : Instr) (l : Label)
    (setup : State → State) : accept op l setup s = .next (setup (enter op l s)) := by
  simp [accept, h]

theorem turn_ready {s : State} (h : s.seq = .ready) (op : Instr) (a : StepOutcome) (b : Label → StepOutcome) :
    turn op s a b = a := by
  simp [turn, h]

theorem turn_run {s : State} {op : Instr} {l : Label} (h : s.seq = .run op l) (a : StepOutcome)
    (b : Label → StepOutcome) : turn op s a b = b l := by
  simp [turn, h]

theorem turn_faulted {s : State} (h : s.seq = .faulted) (op : Instr) (a : StepOutcome) (b : Label → StepOutcome) :
    turn op s a b = .fault (.terminal s.fault) := by
  simp [turn, h]

theorem turn_refused {s : State} (h : s.seq = .refused) (op : Instr) (a : StepOutcome) (b : Label → StepOutcome) :
    turn op s a b = .refused (.terminal s.refused) := by
  simp [turn, h]

/-- Everything `turn` can do when it answers a next state. -/
theorem turn_cases {op : Instr} {s t : State} {a : StepOutcome} {b : Label → StepOutcome}
    (h : turn op s a b = .next t) :
    (s.seq = .ready ∧ a = .next t) ∨ ∃ l, s.seq = .run op l ∧ b l = .next t := by
  unfold turn at h
  split at h
  · exact .inl ⟨‹_›, h⟩
  · split at h
    · rename_i hs hop
      exact .inr ⟨_, hop ▸ hs, h⟩
    · cases h
  · cases h
  · cases h

/-! ## The caller's next request -/

/-- With no request left, dropping the unissued ones leaves the state. -/
theorem drop_no_calls {s : State} (h : s.calls = []) : { s with calls := [] } = s := by
  cases s; cases h; rfl

/-- Unless the last request returned `Err`, every call is issued (R84). -/
theorem upcoming_eq_calls {s : State} (h : ∀ v, s.ret ≠ some (.err v)) : upcoming s = s.calls := by
  unfold upcoming
  split
  · exact absurd ‹_› (h _)
  · rfl

/-- After an `Err` the rest of an expansion is skipped (R84). -/
theorem upcoming_after_err {s : State} {v : BusStatus} (h : s.ret = some (.err v)) :
    upcoming s = s.calls.dropWhile Call.onlyAfterOk := by
  unfold upcoming; rw [h]

/-- With no call there is none to issue. -/
theorem upcoming_nil {s : State} (h : s.calls = []) : upcoming s = [] := by
  unfold upcoming
  split <;> simp [h]

/-! ## The step -/

theorem peripheralChoice_idle {s : State} (h : s.busy = false) : peripheralChoice s = (.wait, s) := by
  simp [peripheralChoice, h]

theorem peripheralChoice_scripted {s : State} {m : PeripheralMove} {ms : List PeripheralMove} (hb : s.busy = true)
    (hs : s.script = m :: ms) : peripheralChoice s = (m, { s with script := ms }) := by
  simp [peripheralChoice, hb, hs]

/-- With no command in flight the step is the sequencer's. -/
theorem step_idle {s : State} (h : s.busy = false) : step s = sequencerStep s := by
  simp [step, machineStep, peripheralChoice_idle h]

/-- A scripted completion (R125). -/
theorem step_complete {s : State} {st d : Byte} {ms : List PeripheralMove} (hb : s.busy = true)
    (hs : s.script = .complete st d :: ms) : step s = .next (complete st d { s with script := ms }) := by
  simp [step, machineStep, peripheralChoice_scripted hb hs]

/-- A scripted wait leaves the step to the sequencer (R126). -/
theorem step_wait {s : State} {ms : List PeripheralMove} (hb : s.busy = true) (hs : s.script = .wait :: ms) :
    step s = sequencerStep { s with script := ms } := by
  simp [step, machineStep, peripheralChoice_scripted hb hs]

/-- Everything the peripheral's choice can do to the state: nothing but use up the script or the counter. -/
theorem peripheralChoice_snd (s : State) :
    ∃ ms k, (peripheralChoice s).2 = { s with script := ms, tick := k } := by
  unfold peripheralChoice
  split
  · split
    · exact ⟨_, _, rfl⟩
    · exact ⟨_, _, rfl⟩
  · exact ⟨_, _, rfl⟩

/-- Everything a step can do when it answers a next state: a completion of the command in flight, or a step of the
sequencer, at the state with the peripheral's choice used up. -/
theorem step_cases {s t : State} (h : step s = .next t) :
    ∃ ms k, (s.busy = true ∧ ∃ st d, t = complete st d { s with script := ms, tick := k }) ∨
      sequencerStep { s with script := ms, tick := k } = .next t := by
  obtain ⟨ms, k, hc⟩ := peripheralChoice_snd s
  refine ⟨ms, k, ?_⟩
  generalize hu : { s with script := ms, tick := k } = u at hc
  unfold step machineStep at h
  by_cases hb : s.busy = true
  · generalize hp : peripheralChoice s = p at hc h
    obtain ⟨m, s'⟩ := p
    simp only at hc
    subst hc
    cases m with
    | complete st d => exact .inl ⟨hb, st, d, (Host.Outcome.next.inj h).symm⟩
    | wait => exact .inr h
  · rw [peripheralChoice_idle (by simpa using hb)] at h hc
    simp only at hc
    subst hc
    exact .inr h

theorem sequencerStep_run {s : State} {op : Instr} {l : Label} (h : s.seq = .run op l) (hl : l ∈ labelsOf op) :
    sequencerStep s = exec op s := by
  simp [sequencerStep, h, hl]

end Sys2Proof.Machine
end

