-- ==== Sys2Proof/Laws/Exec.lean ====
section
/-! SUPPORT. Everything `exec` can do when it answers a next state, said once: the relation `Took`, one constructor per
label and outcome, and `exec_took`. Every proof about all instructions is a case split on it. -/

namespace Sys2Proof.Machine

/-- `Took i s t`: instruction `i` takes `s` to the next state `t`. -/
inductive Took : Instr → State → State → Prop where
  | noInstance {i : Instr} {s : State} (hi : labelsOf i ≠ []) (hn : i ≠ .new) (hs : s.seq = .ready)
      (hd : s.divisor = none) : Took i s (refuse .noInstance s)
  | newEnter {s : State} (hs : s.seq = .ready) : Took .new s (enter .new .f0 s)
  | newRefused {s : State} {r : Reason} (hs : s.seq = .run .new .f0) (hr : divisorOf s.freq = .error r) :
      Took .new s (refuse r s)
  | newDone {s : State} {d : Byte} (hs : s.seq = .run .new .f0) (hr : divisorOf s.freq = .ok d)
      (hd : s.divisor = none) : Took .new s (finish none { s with divisor := some d })
  | initEnter {s : State} {d : Byte} (hs : s.seq = .ready) (hd : s.divisor = some d) :
      Took .init s (enter .init .i0 s)
  | initI0 {s : State} (hs : s.seq = .run .init .i0) : Took .init s (goto .init .i1 (writeTwsr 0x00#8 s))
  | initI1 {s : State} {d : Byte} (hs : s.seq = .run .init .i1) (hd : s.divisor = some d) :
      Took .init s (goto .init .i2 (writeTwbr d s))
  | initI1None {s : State} (hs : s.seq = .run .init .i1) (hd : s.divisor = none) :
      Took .init s (refuse .noInstance s)
  | initI2 {s : State} (hs : s.seq = .run .init .i2) : Took .init s (finish none (writeTwcr 0x04#8 s))
  | startEnter {s : State} {d : Byte} (hs : s.seq = .ready) (hd : s.divisor = some d) :
      Took .start s (setPhase .startPending (enter .start .s0 s))
  | startS0 {s : State} (hs : s.seq = .run .start .s0) : Took .start s (goto .start .s1 (writeTwcr 0xA4#8 s))
  | startS1 {s : State} (hs : s.seq = .run .start .s1) (hf : s.intFlag = true) : Took .start s (goto .start .s2 s)
  | startS2 {s : State} {st : BusStatus} (hs : s.seq = .run .start .s2) (hd : decodeStatus s.twsrRd = some st) :
      Took .start s (finish (some (resultOf .startTransmitted st)) (noteStatus s.twsrRd s))
  | stopEnter {s : State} {d : Byte} (hs : s.seq = .ready) (hd : s.divisor = some d) :
      Took .stop s (setPhase .stopPending (enter .stop .p0 s))
  | stopP0 {s : State} (hs : s.seq = .run .stop .p0) : Took .stop s (goto .stop .p1 (writeTwcr 0x94#8 s))
  | stopP1 {s : State} (hs : s.seq = .run .stop .p1) (hf : s.intFlag = true) :
      Took .stop s (setPhase .idle (finish (some .ok) s))
  | headerWide {a : Byte} {dir : Direction} {s : State} {d : Byte} (hs : s.seq = .ready) (hd : s.divisor = some d)
      (ha : 0x7F#8 < a) : Took (.sendHeader a dir) s (refuse .addressTooWide s)
  | headerEnter {a : Byte} {dir : Direction} {s : State} {d : Byte} (hs : s.seq = .ready) (hd : s.divisor = some d)
      (ha : ¬ 0x7F#8 < a) : Took (.sendHeader a dir) s (headerSetup a dir (enter (.sendHeader a dir) .h0 s))
  | headerH0 {a : Byte} {dir : Direction} {s : State} (hs : s.seq = .run (.sendHeader a dir) .h0) :
      Took (.sendHeader a dir) s (goto (.sendHeader a dir) .h1 (writeTwdr s.locals.payload s))
  | headerH1 {a : Byte} {dir : Direction} {s : State} (hs : s.seq = .run (.sendHeader a dir) .h1) :
      Took (.sendHeader a dir) s (goto (.sendHeader a dir) .h2 (writeTwcr 0x84#8 s))
  | headerH2 {a : Byte} {dir : Direction} {s : State} (hs : s.seq = .run (.sendHeader a dir) .h2)
      (hf : s.intFlag = true) : Took (.sendHeader a dir) s (goto (.sendHeader a dir) .h3 s)
  | headerH3 {a : Byte} {dir : Direction} {s : State} {st : BusStatus} (hs : s.seq = .run (.sendHeader a dir) .h3)
      (hd : decodeStatus s.twsrRd = some st) :
      Took (.sendHeader a dir) s (finish (some (resultOf s.locals.expected st)) (noteStatus s.twsrRd s))
  | sendEnter {s : State} {d : Byte} (hs : s.seq = .ready) (hd : s.divisor = some d) :
      Took .send s (sendSetup (enter .send .t0 s))
  | sendEnd {s : State} (hs : s.seq = .run .send .t0) (hi : s.locals.i = s.locals.n) :
      Took .send s (finish (some .ok) s)
  | sendT0 {s : State} {b : Byte} (hs : s.seq = .run .send .t0) (hi : s.locals.i ≠ s.locals.n)
      (hb : s.data[s.locals.i]? = some b) : Took .send s (goto .send .t1 (writeTwdr b s))
  | sendT1 {s : State} (hs : s.seq = .run .send .t1) : Took .send s (goto .send .t2 (writeTwcr 0x84#8 s))
  | sendT2 {s : State} (hs : s.seq = .run .send .t2) (hf : s.intFlag = true) : Took .send s (goto .send .t3 s)
  | sendT3 {s : State} (hs : s.seq = .run .send .t3) (hd : decodeStatus s.twsrRd = some .dataSentAcked) :
      Took .send s (goto .send .t0 (advanceIndex (noteStatus s.twsrRd s)))
  | sendErr {s : State} {st : BusStatus} (hs : s.seq = .run .send .t3) (hd : decodeStatus s.twsrRd = some st)
      (hn : st ≠ .dataSentAcked) : Took .send s (finish (some (.err st)) (noteStatus s.twsrRd s))
  | readEnter {e : Bool} {s : State} {d : Byte} (hs : s.seq = .ready) (hd : s.divisor = some d) :
      Took (.read e) s (readSetup e (enter (.read e) .v0 s))
  | readEnd {e : Bool} {s : State} (hs : s.seq = .run (.read e) .v0) (hi : s.locals.i = s.locals.n) :
      Took (.read e) s (finish (some .ok) s)
  | readV0 {e : Bool} {s : State} (hs : s.seq = .run (.read e) .v0) (hi : s.locals.i ≠ s.locals.n) :
      Took (.read e) s (goto (.read e) .v1 (writeTwcr s.locals.cmd s))
  | readV1 {e : Bool} {s : State} (hs : s.seq = .run (.read e) .v1) (hf : s.intFlag = true) :
      Took (.read e) s (goto (.read e) .v2 s)
  | readV2 {e : Bool} {s : State} (hs : s.seq = .run (.read e) .v2)
      (hd : decodeStatus s.twsrRd = some s.locals.expected) :
      Took (.read e) s (goto (.read e) .v3 (noteStatus s.twsrRd s))
  | readErr {e : Bool} {s : State} {st : BusStatus} (hs : s.seq = .run (.read e) .v2)
      (hd : decodeStatus s.twsrRd = some st) (hn : st ≠ s.locals.expected) :
      Took (.read e) s (finish (some (.err st)) (noteStatus s.twsrRd s))
  | readV3 {e : Bool} {s : State} (hs : s.seq = .run (.read e) .v3) (hi : s.locals.i < s.buf.length) :
      Took (.read e) s (goto (.read e) .v0 (advanceIndex (storeSlot s.twdr s)))
  | decodeEnter {raw : Byte} {s : State} {d : Byte} (hs : s.seq = .ready) (hd : s.divisor = some d) :
      Took (.decode raw) s (enter (.decode raw) .x0 s)
  | decodeX0 {raw : Byte} {s : State} (hs : s.seq = .run (.decode raw) .x0) :
      Took (.decode raw) s (finish (some (.decoded (decodeStatus raw))) s)
  | awaitEnter {s : State} {d : Byte} (hs : s.seq = .ready) (hd : s.divisor = some d) :
      Took .await s (enter .await .a0 s)
  | awaitA0 {s : State} (hs : s.seq = .run .await .a0) (hf : s.intFlag = true) : Took .await s (finish none s)
  /-- A poll that finds the flag 0 (R89). -/
  | held {i : Instr} {l : Label} {s : State} (hs : s.seq = .run i l) (hl : l ∈ labelsOf i)
      (hw : l ∈ [.s1, .p1, .h2, .t2, .v1, .a0]) (hf : s.intFlag = false) : Took i s s
  /-- The fault (R120). -/
  | unknown {i : Instr} {l : Label} {s : State} (hs : s.seq = .run i l) (hl : l ∈ labelsOf i)
      (hw : l ∈ [.s2, .h3, .t3, .v2]) (hd : decodeStatus s.twsrRd = none) :
      Took i s (raiseUnknownStatus s.twsrRd (noteStatus s.twsrRd s))
  | cmdEnable {s : State} : Took .cmdEnable s (writeTwcr 0x04#8 s)
  | cmdStart {s : State} : Took .cmdStart s (writeTwcr 0xA4#8 s)
  | cmdStop {s : State} : Took .cmdStop s (writeTwcr 0x94#8 s)
  | cmdXfer {s : State} : Took .cmdXfer s (writeTwcr 0x84#8 s)
  | cmdXferAck {s : State} : Took .cmdXferAck s (writeTwcr 0xC4#8 s)

/-- Everything an accepted or refused request can do. -/
theorem accept_cases {op : Instr} {l : Label} {setup : State → State} {s t : State}
    (h : accept op l setup s = .next t) :
    (s.divisor = none ∧ t = refuse .noInstance s) ∨ ∃ d, s.divisor = some d ∧ t = setup (enter op l s) := by
  cases hd : s.divisor with
  | none => rw [accept_none hd] at h; exact .inl ⟨rfl, (Host.Outcome.next.inj h).symm⟩
  | some d => rw [accept_some hd] at h; exact .inr ⟨d, rfl, (Host.Outcome.next.inj h).symm⟩

/-- Everything an await step can do. -/
theorem awaitStep_cases {k : State → StepOutcome} {s t : State} (h : awaitStep k s = .next t) :
    (s.intFlag = true ∧ k s = .next t) ∨ (s.intFlag = false ∧ t = s) := by
  cases hf : s.intFlag with
  | true => rw [awaitStep_done hf] at h; exact .inl ⟨rfl, h⟩
  | false => rw [awaitStep_held hf] at h; exact .inr ⟨rfl, (Host.Outcome.next.inj h).symm⟩

/-- Everything a status check can do. -/
theorem checkStatus_cases {k : BusStatus → State → StepOutcome} {s t : State} (h : checkStatus k s = .next t) :
    (∃ st, decodeStatus s.twsrRd = some st ∧ k st (noteStatus s.twsrRd s) = .next t) ∨
      (decodeStatus s.twsrRd = none ∧ t = raiseUnknownStatus s.twsrRd (noteStatus s.twsrRd s)) := by
  cases hd : decodeStatus s.twsrRd with
  | none => rw [checkStatus_absent hd] at h; exact .inr ⟨rfl, (Host.Outcome.next.inj h).symm⟩
  | some st => rw [checkStatus_named hd] at h; exact .inl ⟨st, rfl, h⟩

theorem execNew_took {s t : State} (h : execNew s = .next t) : Took .new s t := by
  rcases turn_cases h with ⟨hs, h⟩ | ⟨l, hs, h⟩
  · cases h; exact .newEnter hs
  · cases l <;> simp only [reduceCtorEq] at h
    cases hr : divisorOf s.freq with
    | error r => simp only [hr] at h; cases h; exact .newRefused hs hr
    | ok d =>
      simp only [hr] at h
      cases hd : s.divisor with
      | none => simp only [hd] at h; cases h; exact .newDone hs hr hd
      | some d' => simp only [hd] at h; cases h

theorem execInit_took {s t : State} (h : execInit s = .next t) : Took .init s t := by
  rcases turn_cases h with ⟨hs, h⟩ | ⟨l, hs, h⟩
  · rcases accept_cases h with ⟨hd, rfl⟩ | ⟨d, hd, rfl⟩
    · exact .noInstance (by decide) (by decide) hs hd
    · exact .initEnter hs hd
  · cases l <;> simp only [reduceCtorEq] at h
    · cases h; exact .initI0 hs
    · cases hd : s.divisor with
      | none => simp only [hd] at h; cases h; exact .initI1None hs hd
      | some d => simp only [hd] at h; cases h; exact .initI1 hs hd
    · cases h; exact .initI2 hs

theorem execStart_took {s t : State} (h : execStart s = .next t) : Took .start s t := by
  rcases turn_cases h with ⟨hs, h⟩ | ⟨l, hs, h⟩
  · rcases accept_cases h with ⟨hd, rfl⟩ | ⟨d, hd, rfl⟩
    · exact .noInstance (by decide) (by decide) hs hd
    · exact .startEnter hs hd
  · cases l <;> simp only [reduceCtorEq] at h
    · cases h; exact .startS0 hs
    · rcases awaitStep_cases h with ⟨hf, h⟩ | ⟨hf, rfl⟩
      · cases h; exact .startS1 hs hf
      · exact .held hs (by decide) (by decide) hf
    · rcases checkStatus_cases h with ⟨st, hd, h⟩ | ⟨hd, rfl⟩
      · cases h; exact .startS2 hs hd
      · exact .unknown hs (by decide) (by decide) hd

theorem execStop_took {s t : State} (h : execStop s = .next t) : Took .stop s t := by
  rcases turn_cases h with ⟨hs, h⟩ | ⟨l, hs, h⟩
  · rcases accept_cases h with ⟨hd, rfl⟩ | ⟨d, hd, rfl⟩
    · exact .noInstance (by decide) (by decide) hs hd
    · exact .stopEnter hs hd
  · cases l <;> simp only [reduceCtorEq] at h
    · cases h; exact .stopP0 hs
    · rcases awaitStep_cases h with ⟨hf, h⟩ | ⟨hf, rfl⟩
      · cases h; exact .stopP1 hs hf
      · exact .held hs (by decide) (by decide) hf

theorem execSendHeader_took {a : Byte} {dir : Direction} {s t : State} (h : execSendHeader a dir s = .next t) :
    Took (.sendHeader a dir) s t := by
  rcases turn_cases h with ⟨hs, h⟩ | ⟨l, hs, h⟩
  · cases hd : s.divisor with
    | none => simp only [hd] at h; cases h; exact .noInstance (by simp [labelsOf]) (by simp) hs hd
    | some d =>
      simp only [hd] at h
      split at h
      · cases h; exact .headerWide hs hd ‹_›
      · rw [accept_some hd] at h; cases h; exact .headerEnter hs hd ‹_›
  · cases l <;> simp only [reduceCtorEq] at h
    · cases h; exact .headerH0 hs
    · cases h; exact .headerH1 hs
    · rcases awaitStep_cases h with ⟨hf, h⟩ | ⟨hf, rfl⟩
      · cases h; exact .headerH2 hs hf
      · exact .held hs (by simp [labelsOf]) (by decide) hf
    · rcases checkStatus_cases h with ⟨st, hd, h⟩ | ⟨hd, rfl⟩
      · cases h; exact .headerH3 hs hd
      · exact .unknown hs (by simp [labelsOf]) (by decide) hd

theorem execSend_took {s t : State} (h : execSend s = .next t) : Took .send s t := by
  rcases turn_cases h with ⟨hs, h⟩ | ⟨l, hs, h⟩
  · rcases accept_cases h with ⟨hd, rfl⟩ | ⟨d, hd, rfl⟩
    · exact .noInstance (by decide) (by decide) hs hd
    · exact .sendEnter hs hd
  · cases l <;> simp only [reduceCtorEq] at h
    · split at h
      · cases h; exact .sendEnd hs ‹_›
      · split at h
        · cases h
        · cases h; exact .sendT0 hs ‹_› ‹_›
    · cases h; exact .sendT1 hs
    · rcases awaitStep_cases h with ⟨hf, h⟩ | ⟨hf, rfl⟩
      · cases h; exact .sendT2 hs hf
      · exact .held hs (by decide) (by decide) hf
    · rcases checkStatus_cases h with ⟨st, hd, h⟩ | ⟨hd, rfl⟩
      · split at h
        · rename_i hst; subst hst; cases h; exact .sendT3 hs hd
        · cases h; exact .sendErr hs hd ‹_›
      · exact .unknown hs (by decide) (by decide) hd

theorem execRead_took {e : Bool} {s t : State} (h : execRead e s = .next t) : Took (.read e) s t := by
  rcases turn_cases h with ⟨hs, h⟩ | ⟨l, hs, h⟩
  · rcases accept_cases h with ⟨hd, rfl⟩ | ⟨d, hd, rfl⟩
    · exact .noInstance (by simp [labelsOf]) (by simp) hs hd
    · exact .readEnter hs hd
  · cases l <;> simp only [reduceCtorEq] at h
    · split at h
      · cases h; exact .readEnd hs ‹_›
      · cases h; exact .readV0 hs ‹_›
    · rcases awaitStep_cases h with ⟨hf, h⟩ | ⟨hf, rfl⟩
      · cases h; exact .readV1 hs hf
      · exact .held hs (by simp [labelsOf]) (by decide) hf
    · rcases checkStatus_cases h with ⟨st, hd, h⟩ | ⟨hd, rfl⟩
      · split at h
        · rename_i hst; subst hst; cases h; exact .readV2 hs hd
        · cases h; exact .readErr hs hd ‹_›
      · exact .unknown hs (by simp [labelsOf]) (by decide) hd
    · rw [memRead_twdr] at h
      simp only at h
      split at h
      · cases h; exact .readV3 hs ‹_›
      · cases h

theorem execDecode_took {raw : Byte} {s t : State} (h : execDecode raw s = .next t) : Took (.decode raw) s t := by
  rcases turn_cases h with ⟨hs, h⟩ | ⟨l, hs, h⟩
  · rcases accept_cases h with ⟨hd, rfl⟩ | ⟨d, hd, rfl⟩
    · exact .noInstance (by simp [labelsOf]) (by simp) hs hd
    · exact .decodeEnter hs hd
  · cases l <;> simp only [reduceCtorEq] at h
    cases h; exact .decodeX0 hs

theorem execAwait_took {s t : State} (h : execAwait s = .next t) : Took .await s t := by
  rcases turn_cases h with ⟨hs, h⟩ | ⟨l, hs, h⟩
  · rcases accept_cases h with ⟨hd, rfl⟩ | ⟨d, hd, rfl⟩
    · exact .noInstance (by decide) (by decide) hs hd
    · exact .awaitEnter hs hd
  · cases l <;> simp only [reduceCtorEq] at h
    rcases awaitStep_cases h with ⟨hf, h⟩ | ⟨hf, rfl⟩
    · cases h; exact .awaitA0 hs hf
    · exact .held hs (by decide) (by decide) hf

/-- Everything `exec` can do when it answers a next state. -/
theorem exec_took {i : Instr} {s t : State} (h : exec i s = .next t) : Took i s t := by
  cases i with
  | new => exact execNew_took h
  | init => exact execInit_took h
  | start => exact execStart_took h
  | stop => exact execStop_took h
  | sendHeader a dir => exact execSendHeader_took h
  | send => exact execSend_took h
  | read e => exact execRead_took h
  | decode raw => exact execDecode_took h
  | await => exact execAwait_took h
  | cmdEnable => cases h; exact .cmdEnable
  | cmdStart => cases h; exact .cmdStart
  | cmdStop => cases h; exact .cmdStop
  | cmdXfer => cases h; exact .cmdXfer
  | cmdXferAck => cases h; exact .cmdXferAck

/-- Everything a step of the sequencer can do when it answers a next state: idle, a refused encoding, a request
considered, or the running operation's step. -/
theorem sequencerStep_cases {s t : State} (h : sequencerStep s = .next t) :
    (s.seq = .ready ∧ upcoming s = [] ∧ t = { s with calls := [] }) ∨
    (∃ c rest r, s.seq = .ready ∧ upcoming s = c :: rest ∧ c.request = .error r ∧
      t = refuse r { s with calls := rest }) ∨
    (∃ c rest i, s.seq = .ready ∧ upcoming s = c :: rest ∧ c.request = .ok i ∧
      Took i (presentOperands i c { s with calls := rest }) t) ∨
    (∃ op l, s.seq = .run op l ∧ l ∈ labelsOf op ∧ Took op s t) := by
  unfold sequencerStep at h
  split at h
  · rename_i hs
    split at h
    · cases h; exact .inl ⟨hs, ‹_›, rfl⟩
    · rename_i c rest hc
      unfold takeCall at h
      split at h
      · cases h; exact .inr (.inl ⟨c, rest, _, hs, hc, ‹_›, rfl⟩)
      · exact .inr (.inr (.inl ⟨c, rest, _, hs, hc, ‹_›, exec_took h⟩))
  · rename_i op l hs
    split at h
    · rename_i hl
      exact .inr (.inr (.inr ⟨op, l, hs, by simpa using hl, exec_took h⟩))
    · cases h
  · cases h
  · cases h

end Sys2Proof.Machine
end

