-- ==== Sys2Proof/Laws/PerInstr.lean ====
section
/-! SUPPORT. The family over all instructions: the encoding of a well-formed instruction has its row's fixed bits. -/

namespace Sys2Proof.Laws

/-- A row's `match` and `mask` in spec/opcode_table.json: the format, the fixed value, the mask. -/
def rowOf : Instr → Code × Nat
  | .new => (.req 0x0000#16, 0xFFFF)
  | .init => (.req 0x1000#16, 0xFFFF)
  | .start => (.req 0x2000#16, 0xFFFF)
  | .stop => (.req 0x3000#16, 0xFFFF)
  | .sendHeader _ _ => (.req 0x4000#16, 0xFF00)
  | .send => (.req 0x5000#16, 0xFFFF)
  | .read _ => (.req 0x6000#16, 0xFFFE)
  | .decode _ => (.req 0x7000#16, 0xFF00)
  | .await => (.req 0x8000#16, 0xFFFF)
  | .cmdEnable => (.cmd 0x04#8, 0xFF)
  | .cmdStart => (.cmd 0xA4#8, 0xFF)
  | .cmdStop => (.cmd 0x94#8, 0xFF)
  | .cmdXfer => (.cmd 0x84#8, 0xFF)
  | .cmdXferAck => (.cmd 0xC4#8, 0xFF)

/-- The bits of a code under a mask. -/
def maskCode (c : Code) (mask : Nat) : Code :=
  match c with
  | .req w => .req (w &&& BitVec.ofNat 16 mask)
  | .cmd b => .cmd (b &&& BitVec.ofNat 8 mask)

/-- The encoding, under its row's mask, is its row's match. -/
def RowBits.Statement (i : Instr) : Prop :=
  i.wellFormed = true → maskCode (encode i) (rowOf i).2 = (rowOf i).1

/-- The upper byte of a request word is its selector over a zero `z` field (R68). -/
theorem reqWord_upper (op : BitVec 4) (b : Byte) : reqWord op b &&& 0xFF00#16 = reqWord op 0x00#8 := by
  apply BitVec.eq_of_getLsbD_eq
  intro i hi
  simp only [reqWord, BitVec.getLsbD_and, BitVec.getLsbD_append]
  interval_cases i <;> simp

theorem RowBits.new : RowBits.Statement .new := fun _ => by decide
theorem RowBits.init : RowBits.Statement .init := fun _ => by decide
theorem RowBits.start : RowBits.Statement .start := fun _ => by decide
theorem RowBits.stop : RowBits.Statement .stop := fun _ => by decide
theorem RowBits.sendHeader (address : Byte) (direction : Direction) :
    RowBits.Statement (.sendHeader address direction) := fun _ => by
  simp only [maskCode, encode, rowOf, Code.req.injEq]
  exact reqWord_upper _ _
theorem RowBits.send : RowBits.Statement .send := fun _ => by decide
theorem RowBits.read (endWithNack : Bool) : RowBits.Statement (.read endWithNack) := fun _ => by
  cases endWithNack <;> decide
theorem RowBits.decode (raw : Byte) : RowBits.Statement (.decode raw) := fun _ => by
  simp only [maskCode, encode, rowOf, Code.req.injEq]
  exact reqWord_upper _ _
theorem RowBits.await : RowBits.Statement .await := fun _ => by decide
theorem RowBits.cmdEnable : RowBits.Statement .cmdEnable := fun _ => by decide
theorem RowBits.cmdStart : RowBits.Statement .cmdStart := fun _ => by decide
theorem RowBits.cmdStop : RowBits.Statement .cmdStop := fun _ => by decide
theorem RowBits.cmdXfer : RowBits.Statement .cmdXfer := fun _ => by decide
theorem RowBits.cmdXferAck : RowBits.Statement .cmdXferAck := fun _ => by decide

end Sys2Proof.Laws
end

