-- ==== Sys2Proof/Tests/Slice0.lean ====
section
/-! SUPPORT. Tests of single steps against the spec's own vectors (spec/95_test_vectors.md), the decoding of words written
out from spec/30_encoding.md, and a witness for the hypotheses of every obligation that has any. -/

namespace Sys2Proof.Tests

open Sys2Proof.Machine

/-! ## Small states -/

/-- A state with a driver object of divisor 0x48, in Ready, with the flag 1. -/
def base : State := { State.reset with divisor := some 0x48#8, intFlag := true }

/-- The sequencer of `base` at a label. -/
def atLabel (op : Instr) (l : Label) : State := { base with seq := .run op l }

/-- The same with the flag 0. -/
def flagDown (op : Instr) (l : Label) : State := { atLabel op l with intFlag := false }

/-- The same with a status byte. -/
def withStatus (op : Instr) (l : Label) (st : Byte) : State := { atLabel op l with twsrRd := st }

/-- One call of a word in `base`. -/
def withCall (c : Call) (script : List PeripheralMove) : State := { base with calls := [c], script := script }

/-- The next state of an outcome. -/
def nextOf (o : StepOutcome) : Option State :=
  match o with
  | .next s => some s
  | _ => none

/-! ## Well-formedness (R107, R109) -/

theorem test_wellFormed_refuses_wide_address : (Instr.sendHeader 0x80#8 .write).wellFormed = false := by decide
theorem test_wellFormed_admits_top_address : (Instr.sendHeader 0x7F#8 .read).wellFormed = true := by decide

/-! ## Decoding: words written out from R68, R69, R74 (op, z, opnd) and V10 -/

theorem test_decode_new : decodeReq 0b0000_0000_00000000#16 = .ok .new := by decide
theorem test_decode_init : decodeReq 0b0001_0000_00000000#16 = .ok .init := by decide
theorem test_decode_start : decodeReq 0b0010_0000_00000000#16 = .ok .start := by decide
theorem test_decode_stop : decodeReq 0b0011_0000_00000000#16 = .ok .stop := by decide
theorem test_decode_sendHeader : decodeReq 0b0100_0000_1101000_1#16 = .ok (.sendHeader 0x68#8 .read) := by decide
theorem test_decode_sendHeader_write : decodeReq 0b0100_0000_0111100_0#16 = .ok (.sendHeader 0x3C#8 .write) := by
  decide
theorem test_decode_send : decodeReq 0b0101_0000_00000000#16 = .ok .send := by decide
theorem test_decode_read : decodeReq 0b0110_0000_0000000_1#16 = .ok (.read true) := by decide
theorem test_decode_read_ack : decodeReq 0b0110_0000_0000000_0#16 = .ok (.read false) := by decide
theorem test_decode_decode : decodeReq 0b0111_0000_11111000#16 = .ok (.decode 0xF8#8) := by decide
theorem test_decode_await : decodeReq 0b1000_0000_00000000#16 = .ok .await := by decide
theorem test_decode_cmdEnable : decodeCmd 0b00000100#8 = .ok .cmdEnable := by decide
theorem test_decode_cmdStart : decodeCmd 0b10100100#8 = .ok .cmdStart := by decide
theorem test_decode_cmdStop : decodeCmd 0b10010100#8 = .ok .cmdStop := by decide
theorem test_decode_cmdXfer : decodeCmd 0b10000100#8 = .ok .cmdXfer := by decide
theorem test_decode_cmdXferAck : decodeCmd 0b11000100#8 = .ok .cmdXferAck := by decide
theorem test_decode_operand_bits : decodeReq 0x2001#16 = .error .reservedBits := by decide
theorem test_decode_z_first : decodeReq 0x9100#16 = .error .reservedBits := by decide
theorem test_decode_selector : decodeReq 0x9000#16 = .error .reservedOpcode := by decide
theorem test_decode_read_bits : decodeReq 0x6003#16 = .error .reservedBits := by decide
theorem test_decode_cmd_other : decodeCmd 0x85#8 = .error (.notACommand 0x85#8) := by decide
theorem test_table_word_req : decodeTableWord 16 0x40A1 = some (.sendHeader 0x50#8 .read) := by decide
theorem test_table_word_cmd : decodeTableWord 8 0xC4 = some .cmdXferAck := by decide
theorem test_encode_header : encode (.sendHeader 0x7F#8 .write) = .req 0x40FE#16 := by decide

/-! ## One step each -/

/-- V2: f = 100,000 gives 0x48. -/
theorem test_new_divisor :
    (nextOf (exec .new { State.reset with seq := .run .new .f0, freq := 100000 })).map (·.divisor) =
      some (some 0x48#8) := by decide
/-- V2: f = 30,303 is refused. -/
theorem test_new_out_of_range :
    (nextOf (exec .new { State.reset with seq := .run .new .f0, freq := 30303 })).map (·.refused) =
      some (some .frequencyOutOfRange) := by decide
/-- V3. -/
theorem test_init_writes_divisor :
    (nextOf (exec .init (atLabel .init .i1))).map (·.twbr) = some 0x48#8 := by decide
/-- V10: before NEW, INIT is refused. -/
theorem test_init_no_driver : (nextOf (exec .init State.reset)).map (·.refused) = some (some .noInstance) := by decide
/-- V4: 0x10 is an error. -/
theorem test_start_repeated :
    (nextOf (exec .start (withStatus .start .s2 0x10#8))).map (·.ret) =
      some (some (.err .repeatedStartTransmitted)) := by decide
/-- V4: 0x09 faults. -/
theorem test_start_unknown :
    (nextOf (exec .start (withStatus .start .s2 0x09#8))).map (fun t => (t.fault, t.seq)) =
      some (some 0x09#8, .faulted) := by decide
/-- V5: an absent code after STOP is no fault. -/
theorem test_stop_ok :
    (nextOf (exec .stop (withStatus .stop .p1 0xFF#8))).map (fun t => (t.ret, t.phase)) =
      some (some .ok, .idle) := by decide
/-- V6: the other direction's acknowledge is an error. -/
theorem test_header_other_ack :
    (nextOf (exec (.sendHeader 0x50#8 .write)
      { withStatus (.sendHeader 0x50#8 .write) .h3 0x40#8 with
        locals := { Locals.reset with expected := .writeHeaderAcked } })).map (·.ret) =
      some (some (.err .readHeaderAcked)) := by decide
/-- V6: payload 0xFF for 0x7F, R. -/
theorem test_header_payload :
    (nextOf (exec (.sendHeader 0x7F#8 .read) base)).map (·.locals.payload) = some 0xFF#8 := by decide
/-- V7: an empty sequence returns `Ok`. -/
theorem test_send_empty : (nextOf (exec .send (atLabel .send .t0))).map (·.ret) = some (some .ok) := by decide
/-- V7: a NACK on a byte is an error. -/
theorem test_send_nacked :
    (nextOf (exec .send (withStatus .send .t3 0x30#8))).map (·.ret) = some (some (.err .dataSentNacked)) := by decide
/-- V8: `end_with_nack` = true asserts ack-enable. -/
theorem test_read_command :
    (nextOf (exec (.read true) { base with buf := [0xEE#8] })).map (·.locals.cmd) = some 0xC4#8 := by decide
/-- V8: the data register goes to the slot. -/
theorem test_read_slot :
    (nextOf (exec (.read true)
      { atLabel (.read true) .v3 with
        buf := [0x11#8, 0xEE#8], twdr := 0x22#8, locals := { Locals.reset with i := 1, n := 2 } })).map (·.buf) =
      some [0x11#8, 0x22#8] := by decide
/-- V1: 0x60 is absent. -/
theorem test_decode_absent :
    (nextOf (exec (.decode 0x60#8) (atLabel (.decode 0x60#8) .x0))).map (·.ret) = some (some (.decoded none)) := by
  decide
/-- V1: 0x28. -/
theorem test_decode_named :
    (nextOf (exec (.decode 0x28#8) (atLabel (.decode 0x28#8) .x0))).map (·.ret) =
      some (some (.decoded (some .dataSentAcked))) := by decide
/-- V9: with the flag 1 AWAIT returns. -/
theorem test_await_returns : (nextOf (exec .await (atLabel .await .a0))).map (·.seq) = some .ready := by decide
/-- V9: with the flag 0 it is held. -/
theorem test_await_held :
    (nextOf (exec .await (flagDown .await .a0))).map (·.seq) = some (.run .await .a0) := by decide
/-- R61: 0x04 is no command. -/
theorem test_cmdEnable_flag : (nextOf (exec .cmdEnable base)).map (·.intFlag) = some true := by decide
theorem test_cmdStart_flag : (nextOf (exec .cmdStart base)).map (·.intFlag) = some false := by decide
theorem test_cmdStop_byte : (nextOf (exec .cmdStop base)).map (·.twcrWr) = some (some 0x94#8) := by decide
theorem test_cmdXfer_latches :
    (nextOf (exec .cmdXfer { base with twdr := 0xA0#8 })).map (·.pending) = some (some (0x84#8, 0xA0#8)) := by decide
theorem test_cmdXferAck_busy : (nextOf (exec .cmdXferAck base)).map (·.busy) = some true := by decide
/-- R125. -/
theorem test_complete :
    (nextOf (step { flagDown .start .s1 with busy := true, script := [.complete 0x08#8 0x55#8] })).map
      (fun t => (t.twsrRd, t.twdr, t.intFlag, t.busy)) = some (0x08#8, 0x55#8, true, false) := by decide
/-- The first step after reset runs the placed instruction (log 8). -/
theorem test_withFetchWord_req :
    (nextOf (step (State.reset.withFetchWord 16 0x2000))).map (·.seq) = some (.run .start .s0) := by decide
theorem test_withFetchWord_cmd :
    (nextOf (step (State.reset.withFetchWord 8 0xC4))).map (·.twcrWr) = some (some 0xC4#8) := by decide
/-- R84: the last slot alone is read without acknowledge. -/
theorem test_readAckAllButLast :
    (readAckAllButLast [0x01#8, 0x02#8, 0x03#8]).map (fun c => (c.form, c.buf)) =
      [(.word 0x6001#16, [0x01#8, 0x02#8]), (.word 0x6000#16, [0x03#8])] := by decide
/-- R84, R109: the header of WRITE_TXN carries the address as given, and 0x80 is refused. -/
theorem test_writeTxn_wide_address :
    (nextOf (step { base with calls := (writeTxn 0x80#8 [0x01#8]).drop 1 })).map (·.refused) =
      some (some .addressTooWide) := by decide
/-- R84: after an `Err` the rest of the expansion is not issued; the caller's next request is. -/
theorem test_expansion_stops :
    (nextOf (step { base with
      ret := some (.err .busError), calls := (writeTxn 0x50#8 []).drop 1 ++ [wordCall 0x3000#16 [] []] })).map
      (fun t => (t.seq, t.calls)) = some (.run .stop .p0, []) := by decide
/-- R84: a caller may choose to go on (P2). -/
theorem test_expansion_going_on :
    (nextOf (step { base with ret := some (.err .busError), calls := (goingOn (writeTxn 0x50#8 [])).drop 1 })).map
      (·.seq) = some (.run (.sendHeader 0x50#8 .write) .h0) := by decide

/-! ## Witnesses: states and operands that meet an obligation's hypotheses together -/

theorem witness_DecodeOfEncode : (Instr.sendHeader 0x7F#8 .read).wellFormed = true := by decide
theorem witness_EncodeOfDecode : decodeCode (.req 0x40FF#16) = .ok (.sendHeader 0x7F#8 .read) := by decide
theorem witness_StatusTable_absent :
    0x60#8 ∉ [0x00#8, 0x08#8, 0x10#8, 0x18#8, 0x20#8, 0x28#8, 0x30#8, 0x38#8, 0x40#8, 0x48#8, 0x50#8, 0x58#8, 0xF8#8] :=
  by decide
theorem witness_StatusTable_low_bits : (0x09#8).extractLsb' 0 3 ≠ 0#3 := by decide
theorem witness_HeaderByte_top : (0x7F#8 : Byte) ≤ 0x7F#8 := by decide
theorem witness_HeaderByte_wide : 0x80#8 ≤ (0x80#8 : Byte) ∧ base.seq = .ready ∧ base.divisor = some 0x48#8 := by decide
theorem witness_StatusAndControlWrites : (0x80#8 : Byte).getLsbD 7 = true ∧ (0x7F#8 : Byte).getLsbD 7 = false := by
  decide
theorem witness_BitRateAndDataWrites : base.intFlag = true ∧ (flagDown .send .t0).intFlag = false := by decide
theorem witness_WritesTwiceAsOnce :
    base.intFlag = true ∧ (∃ t, memWrite 0x00BB#16 0x11#8 base = .next t) ∧
      (∃ t, memWrite 0x00B8#16 0x11#8 base = .next t) ∧ ∃ t, memWrite 0x00B9#16 0x11#8 base = .next t :=
  ⟨rfl, ⟨_, rfl⟩, ⟨_, rfl⟩, ⟨_, rfl⟩⟩
theorem witness_OnlyFourAddresses :
    0x00BA#16 ∉ [0x00B8#16, 0x00B9#16, 0x00BB#16, 0x00BC#16] ∧
      accessAt (atLabel .start .s2) = some (.read 0x00B9#16) := by decide
theorem witness_OneAccessPerStep :
    (atLabel .start .s0).seq = .run .start .s0 ∧ .s0 ∈ labelsOf .start ∧
      ∃ t, exec .start (atLabel .start .s0) = .next t :=
  ⟨rfl, by decide, _, rfl⟩
theorem witness_CompletionStep :
    base.busy = false ∧
      ({ flagDown .start .s1 with busy := true, script := [.complete 0x08#8 0x00#8] } : State).busy = true ∧
      ({ flagDown .start .s1 with busy := true, script := [.wait] } : State).busy = true ∧
      ({ flagDown .start .s1 with busy := true } : State).script = [] := by decide

theorem witness_NewSteps :
    base.seq = .ready ∧
      ({ State.reset with seq := .run .new .f0 } : State).freq = 0 ∧
      16000000 / (2 * 1000001) < 8 ∧ 263 < 16000000 / (2 * 30303) ∧
      8 ≤ 16000000 / (2 * 1000000) ∧ 16000000 / (2 * 30304) ≤ 263 ∧ State.reset.divisor = none := by decide
theorem witness_SecondNewStops :
    ({ atLabel .new .f0 with freq := 100000 } : State).seq = .run .new .f0 ∧ 8 ≤ 16000000 / (2 * 100000) ∧
      16000000 / (2 * 100000) ≤ 263 ∧ ({ atLabel .new .f0 with freq := 100000 } : State).divisor = some 0x48#8 := by
  decide
theorem witness_AdmittedFrequencies : divisorOf 30304 = .ok 255#8 ∧ divisorOf 30418 = .ok 255#8 := by
  constructor <;> rfl
theorem witness_InitSteps :
    base.divisor = some 0x48#8 ∧ base.seq = .ready ∧ (atLabel .init .i0).seq = .run .init .i0 ∧
      (atLabel .init .i1).divisor = some 0x48#8 ∧ (atLabel .init .i2).seq = .run .init .i2 := by decide
theorem witness_InitLeaves :
    (atLabel .init .i0).divisor = some 0x48#8 ∧ (atLabel .init .i0).busy = false ∧
      (atLabel .init .i0).seq = .run .init .i0 := by decide
theorem witness_StartSteps :
    base.divisor = some 0x48#8 ∧ base.seq = .ready ∧ (atLabel .start .s1).intFlag = true ∧
      (atLabel .start .s1).seq = .run .start .s1 ∧
      decodeStatus (withStatus .start .s2 0x00#8).twsrRd = some .busError := by decide
theorem witness_StopSteps :
    base.divisor = some 0x48#8 ∧ (atLabel .stop .p0).seq = .run .stop .p0 ∧ (atLabel .stop .p1).intFlag = true := by
  decide
theorem witness_SendHeaderSteps :
    base.divisor = some 0x48#8 ∧ (0x7F#8 : Byte) ≤ 0x7F#8 ∧
      (atLabel (.sendHeader 0x50#8 .read) .h0).intFlag = true ∧
      (flagDown (.sendHeader 0x50#8 .read) .h0).intFlag = false ∧
      decodeStatus (withStatus (.sendHeader 0x50#8 .read) .h3 0xF8#8).twsrRd = some .noInformation := by decide
theorem witness_SendSteps :
    (atLabel .send .t0).locals.i = (atLabel .send .t0).locals.n ∧
      ({ atLabel .send .t0 with data := [0x01#8], locals := { Locals.reset with n := 1 } } : State).data[0]? =
        some 0x01#8 ∧
      ({ flagDown .send .t0 with data := [0x01#8], locals := { Locals.reset with n := 1 } } : State).data[0]? =
        some 0x01#8 ∧
      (withStatus .send .t3 0x28#8).twsrRd = 0x28#8 ∧
      decodeStatus (withStatus .send .t3 0x30#8).twsrRd = some .dataSentNacked := by decide
theorem witness_ReadSteps :
    (atLabel (.read true) .v0).locals.i = (atLabel (.read true) .v0).locals.n ∧
      ({ atLabel (.read true) .v0 with locals := { Locals.reset with n := 1, cmd := 0xC4#8 } } : State).locals.i ≠ 1 ∧
      (0xC4#8 : Byte).getLsbD 7 = true ∧
      decodeStatus (withStatus (.read true) .v2 0xF8#8).twsrRd =
        some (withStatus (.read true) .v2 0xF8#8).locals.expected ∧
      decodeStatus (withStatus (.read true) .v2 0x38#8).twsrRd = some .arbitrationLost ∧
      ({ atLabel (.read true) .v3 with buf := [0xEE#8] } : State).locals.i < 1 := by decide
theorem witness_DecodeSteps : base.seq = .ready ∧ (atLabel (.decode 0xFF#8) .x0).seq = .run (.decode 0xFF#8) .x0 := by
  decide
theorem witness_AwaitSteps :
    base.divisor = some 0x48#8 ∧ (atLabel .await .a0).intFlag = true ∧ (flagDown .await .a0).intFlag = false := by
  decide
theorem witness_UnknownStatusFaults :
    decodeStatus (withStatus .start .s2 0x09#8).twsrRd = none ∧
      decodeStatus (withStatus (.sendHeader 0x50#8 .read) .h3 0x41#8).twsrRd = none ∧
      decodeStatus (withStatus .send .t3 0xE0#8).twsrRd = none ∧
      decodeStatus (withStatus (.read true) .v2 0x07#8).twsrRd = none := by decide
theorem witness_NoInstanceRefused :
    labelsOf .await ≠ [] ∧ Instr.await ≠ .new ∧ State.reset.seq = .ready ∧ State.reset.divisor = none := by decide
theorem witness_ReservedWordRefused :
    (withCall (wordCall 0x9000#16 [] []) []).busy = false ∧
      upcoming (withCall (wordCall 0x9000#16 [] []) []) = [wordCall 0x9000#16 [] []] ∧
      decodeReq 0x9000#16 = .error .reservedOpcode := by decide
theorem witness_MarksNeverCleared :
    ({ base with seq := .faulted, fault := some 0x29#8 } : State).busy = false ∧
      ({ base with seq := .refused, refused := some .noInstance } : State).busy = false ∧
      ∃ t, step { flagDown .start .s1 with
        seq := .faulted, busy := true, fault := some 0x29#8, script := [.complete 0x08#8 0x00#8] } = .next t :=
  ⟨rfl, rfl, _, rfl⟩
theorem witness_HeldAtAwait :
    .s1 ∈ labelsOf .start ∧ (flagDown .start .s1).intFlag = false ∧ (flagDown .start .s1).seq = .run .start .s1 := by
  decide
theorem witness_HangIsInfinite :
    (flagDown .await .a0).busy = false ∧ .a0 ∈ labelsOf .await ∧
      ({ flagDown .start .s1 with busy := true, script := [.wait, .wait] } : State).script =
        List.replicate 2 .wait ++ [] := by decide

/-- A state at START's await with its command in flight. -/
def inFlight (script : List PeripheralMove) : State :=
  { flagDown .start .s1 with
    busy := true, twcrWr := some 0xA4#8, twdr := 0x00#8, pending := some (0xA4#8, 0x00#8), phase := .startPending,
    script := script }

theorem witness_Inv_inFlight (script : List PeripheralMove) : Inv (inFlight script) := by
  constructor <;>
    simp [inFlight, flagDown, atLabel, base, State.reset, Seq.labelled, Seq.awaitsCommand, Seq.afterCompletion,
      Seq.running, operationHeld, localsHeld, labelsOf, phaseOf, commandOf]
theorem witness_PollWhileBusyChangesNothing : Inv (inFlight []) ∧ (inFlight []).busy = true := ⟨witness_Inv_inFlight [], rfl⟩
theorem witness_StepKeepsInv :
    Inv (inFlight [.wait]) ∧ ∃ t, step (inFlight [.wait]) = .next t := ⟨witness_Inv_inFlight _, _, rfl⟩

/-- A fault and a refusal under the invariant. -/
theorem witness_StopsOnlyWhereSpecGivesNoStep_fault :
    Inv { base with seq := .faulted, fault := some 0x29#8, faultAt := some (.send, .t3) } ∧
      step { base with seq := .faulted, fault := some 0x29#8, faultAt := some (.send, .t3) } =
        .fault (.terminal (some 0x29#8)) := by
  refine ⟨?_, rfl⟩
  constructor <;>
    simp [base, State.reset, Seq.labelled, Seq.awaitsCommand, Seq.afterCompletion, Seq.running, operationHeld,
      localsHeld]
  decide
theorem witness_StopsOnlyWhereSpecGivesNoStep_refusal :
    Inv { base with seq := .refused, refused := some .reservedBits } ∧
      step { base with seq := .refused, refused := some .reservedBits } =
        .refused (.terminal (some .reservedBits)) := by
  refine ⟨?_, rfl⟩
  constructor <;>
    simp [base, State.reset, Seq.labelled, Seq.awaitsCommand, Seq.afterCompletion, Seq.running, operationHeld,
      localsHeld]
theorem witness_StopsOnlyWhereSpecGivesNoStep_secondNew :
    Inv { atLabel .new .f0 with freq := 100000 } ∧
      step { atLabel .new .f0 with freq := 100000 } = .refused .secondInstance := by
  refine ⟨?_, rfl⟩
  constructor <;>
    simp [atLabel, base, State.reset, Seq.labelled, Seq.awaitsCommand, Seq.afterCompletion, Seq.running, operationHeld,
      localsHeld, labelsOf, phaseOf]

theorem witness_FrameOfEveryInstruction : ∃ t, exec .send (atLabel .send .t1) = .next t := ⟨_, rfl⟩
theorem witness_FrameOfNewDecodeAwait :
    (∃ t, exec .new State.reset = .next t) ∧ (∃ t, exec (.decode 0x00#8) base = .next t) ∧
      ∃ t, exec .await (atLabel .await .a0) = .next t := ⟨⟨_, rfl⟩, ⟨_, rfl⟩, ⟨_, rfl⟩⟩
theorem witness_FrameOfInit : ∃ t, exec .init (atLabel .init .i2) = .next t := ⟨_, rfl⟩
theorem witness_FrameOfStartStop :
    (∃ t, exec .start (withStatus .start .s2 0x08#8) = .next t) ∧ ∃ t, exec .stop (atLabel .stop .p0) = .next t :=
  ⟨⟨_, rfl⟩, ⟨_, rfl⟩⟩
theorem witness_FrameOfTransfers :
    (∃ t, exec (.sendHeader 0x50#8 .read) (atLabel (.sendHeader 0x50#8 .read) .h0) = .next t) ∧
      accessAt (atLabel (.sendHeader 0x50#8 .read) .h0) = some (.write 0x00BB#16 0x00#8) := ⟨⟨_, rfl⟩, rfl⟩
theorem witness_FrameOfReadSlots :
    ∃ t, exec (.read true) { atLabel (.read true) .v3 with buf := [0xEE#8, 0xEE#8] } = .next t := ⟨_, rfl⟩
theorem witness_FrameOfCommandBytes : labelsOf .cmdXfer = [] ∧ ∃ t, exec .cmdXfer base = .next t := ⟨rfl, _, rfl⟩

theorem witness_FlagChanges_down :
    ∃ t, step (atLabel .start .s0) = .next t ∧ (atLabel .start .s0).intFlag = true ∧ t.intFlag = false :=
  ⟨_, rfl, rfl, rfl⟩
theorem witness_FlagChanges_up :
    ∃ t, step (inFlight [.complete 0x08#8 0x00#8]) = .next t ∧ t.intFlag = true := ⟨_, rfl, rfl⟩
theorem witness_OnlyTheseStepsWrite_divisor :
    ∃ t, step { State.reset with seq := .run .new .f0, freq := 100000 } = .next t ∧ t.divisor ≠ none :=
  ⟨_, rfl, by decide⟩
theorem witness_OnlyTheseStepsWrite_twbr :
    ∃ t, step { atLabel .init .i1 with twbr := 0x00#8 } = .next t ∧ t.twbr ≠ 0x00#8 := ⟨_, rfl, by decide⟩
theorem witness_OnlyTheseStepsWrite_twsr :
    ∃ t, step { inFlight [.complete 0x08#8 0x00#8] with twsrRd := 0x00#8 } = .next t ∧ t.twsrRd ≠ 0x00#8 :=
  ⟨_, rfl, by decide⟩
theorem witness_OnlyTheseStepsWrite_buf :
    ∃ t, step { atLabel (.read true) .v3 with buf := [0xEE#8], twdr := 0x11#8 } = .next t ∧ t.buf ≠ [0xEE#8] :=
  ⟨_, rfl, by decide⟩
theorem witness_PhaseIsNeverRead :
    (∃ t, exec .stop base = .next t) ∧
      exec .start { base with seq := .faulted } = .fault (.terminal none) ∧
      exec .start (atLabel .stop .p0) = .refused .callerBlocked := ⟨⟨_, rfl⟩, rfl, rfl⟩
theorem witness_ResultTaxonomy :
    ∃ t, exec .send (atLabel .send .t0) = .next t ∧ t.seq = .ready := ⟨_, rfl, rfl⟩
theorem witness_StepRunsRequest :
    base.seq = .ready ∧ base.busy = false ∧ base.calls = [] ∧
      decodeReq (0x5000#16) = .ok .send ∧
      upcoming (withCall (wordCall 0x5000#16 [0x01#8] []) []) = [wordCall 0x5000#16 [0x01#8] []] ∧
      upcoming { base with ret := some (.err .busError), calls := (writeTxn 0x50#8 []).drop 1 } = [] := by decide
theorem witness_StepRunsRequest_header :
    upcoming (withCall (headerCall 0x80#8 .write) []) = [headerCall 0x80#8 .write] := rfl
theorem witness_StepRunsOperation :
    (atLabel .start .s0).busy = false ∧ .s0 ∈ labelsOf .start ∧ (inFlight [.wait]).busy = true ∧
      (inFlight [.wait]).script = [.wait] := by decide
theorem witness_StepRunsCommandByte :
    (atLabel .init .i2).busy = false ∧ accessAt (atLabel .init .i2) = some (.write 0x00BC#16 0x04#8) ∧
      decodeCmd 0x04#8 = .ok .cmdEnable ∧ .i2 ∈ labelsOf .init := by decide

theorem witness_StartWhole :
    (withCall (wordCall 0x2000#16 [] []) [.complete 0x08#8 0x00#8]).seq = .ready ∧
      (withCall (wordCall 0x2000#16 [] []) [.complete 0x08#8 0x00#8]).divisor = some 0x48#8 ∧
      (withCall (wordCall 0x2000#16 [] []) [.complete 0x08#8 0x00#8]).busy = false ∧
      (wordCall 0x2000#16 [] []).form = .word 0x2000#16 := by decide
theorem witness_StopWhole :
    (withCall (wordCall 0x3000#16 [] []) [.complete 0xFF#8 0x00#8]).busy = false ∧
      (wordCall 0x3000#16 [] []).form = .word 0x3000#16 ∧ .p1 ∈ labelsOf .stop := by decide
theorem witness_SendHeaderWhole :
    (withCall (headerCall 0x7F#8 .read) [.complete 0x40#8 0x00#8]).intFlag =
        true ∧ (0x7F#8 : Byte) ≤ 0x7F#8 := by decide
theorem witness_SendWhole :
    (withCall (wordCall 0x5000#16 [0x01#8, 0x02#8] [])
        [.complete 0x28#8 0x01#8, .complete 0x28#8 0x02#8]).script =
      [0x01#8, 0x02#8].map (PeripheralMove.complete 0x28#8) ++ [] ∧
      (wordCall 0x5000#16 [0x01#8, 0x02#8] []).data[1]? = some 0x02#8 := by decide
theorem witness_SendEarlyExit :
    (withCall (wordCall 0x5000#16 [0x01#8, 0x02#8, 0x03#8] [])
        [.complete 0x28#8 0x01#8, .complete 0x00#8 0x02#8]).script =
      [0x01#8].map (PeripheralMove.complete 0x28#8) ++ [.complete 0x00#8 0x02#8] ∧
      decodeStatus 0x00#8 = some .busError := by decide
theorem witness_ReadWhole :
    (withCall (wordCall 0x6001#16 [] [0xEE#8, 0xEE#8])
        [.complete 0x50#8 0x11#8, .complete 0x50#8 0x22#8]).script =
      [0x11#8, 0x22#8].map (PeripheralMove.complete (if true then 0x50#8 else 0x58#8)) ++ [] := by decide
theorem witness_ReadEarlyExit :
    (withCall (wordCall 0x6001#16 [] [0xEE#8, 0xEE#8])
        [.complete 0x50#8 0x11#8, .complete 0x58#8 0x22#8]).script =
      [0x11#8].map (PeripheralMove.complete (if true then 0x50#8 else 0x58#8)) ++ [.complete 0x58#8 0x22#8] ∧
      decodeStatus 0x58#8 = some .dataReceivedNackSent := by decide

theorem witness_ExpansionStopsAtErr_shape :
    readTxnAck 0x50#8 [0xEE#8] ∈ [writeTxn 0x50#8 [0xEE#8], readTxnAck 0x50#8 [0xEE#8], readAckAllButLast [0xEE#8]] ∧
      ∀ v, base.ret ≠ some (.err v) := ⟨by simp, by simp [base, State.reset]⟩
theorem witness_ExpansionStopsAtErr_skip :
    ((writeTxn 0x50#8 []).drop 1).all (·.onlyAfterOk) = true ∧
      ([wordCall 0x3000#16 [] []].head?.map (·.onlyAfterOk)) = some false := by decide
theorem witness_ExpansionStopsAtErr_wide :
    base.seq = .ready ∧ base.busy = false ∧ base.divisor = some 0x48#8 ∧ 0x80#8 ≤ (0x80#8 : Byte) := by decide
theorem witness_ExpansionStopsAtErr_run :
    upcoming { base with calls := writeTxn 0x50#8 [0x01#8], script := [.complete 0x10#8 0x00#8] } =
      writeTxn 0x50#8 [0x01#8] ++ [] ∧ decodeStatus 0x10#8 = some .repeatedStartTransmitted ∧
      BusStatus.repeatedStartTransmitted ≠ .startTransmitted := by decide

/-- A machine that stays where it is runs there. -/
theorem run_fixed {s : State} (h : step s = .next s) (k : Nat) : core.run k s = .next s := by
  induction k with
  | zero => rfl
  | succ k ih => simp only [Host.Core.run, show core.step s = .next s from h]; exact ih

theorem witness_FairOperationsEnd :
    Inv (inFlight [.complete 0x08#8 0x00#8]) ∧ (inFlight [.complete 0x08#8 0x00#8]).seq = .run .start .s1 ∧
      (∀ v, commandOf .start = some v → v ∈ [0xA4#8]) ∧ FairRun [0xA4#8] (inFlight [.complete 0x08#8 0x00#8]) := by
  refine ⟨witness_Inv_inFlight _, rfl, by decide, ?_⟩
  intro k t v d hk hb _ _
  have step_t : ∀ u, step u = .next u → u.busy = false → ∀ j, core.run j u = .next t → t.busy = true → False := by
    intro u hu hub j hj ht
    rw [run_fixed hu j] at hj
    cases hj
    simp [hub] at ht
  match k, hk with
  | 0, hk => cases hk; exact ⟨1, _, rfl, rfl⟩
  | 1, hk => cases hk; cases hb
  | 2, hk => cases hk; cases hb
  | j + 3, hk => exact (step_t _ rfl rfl j hk hb).elim

end Sys2Proof.Tests
end

section
/-! SUPPORT. The statements about the state: what `Took` changes and leaves, the one access of a step, steps and labels,
the ghost phase, and the invariant. -/

namespace Sys2Proof.Machine

/-! ## Frames of `Took` -/

/-- The caller's operands, its calls, the script and the status read view are no instruction's to change. -/
theorem Took.keeps_caller {i : Instr} {s t : State} (h : Took i s t) :
    t.freq = s.freq ∧ t.data = s.data ∧ t.returned = s.returned ∧ t.calls = s.calls ∧ t.script = s.script ∧
      t.twsrRd = s.twsrRd := by
  cases h <;> simp

theorem Took.divisor_eq {i : Instr} {s t : State} (h : Took i s t) (hi : i ≠ .new) : t.divisor = s.divisor := by
  cases h <;> simp at hi ⊢

theorem Took.twbr_eq {i : Instr} {s t : State} (h : Took i s t) (hi : i ≠ .init) :
    t.twbr = s.twbr ∧ t.twsrWr = s.twsrWr := by
  cases h <;> simp at hi ⊢

/-- The slots stay, but for the one that READ's `V3` fills (R48, R115). -/
theorem Took.buf_cases {i : Instr} {s t : State} (h : Took i s t) :
    t.buf = s.buf ∨ ∃ e, i = .read e ∧ s.seq = .run (.read e) .v3 ∧ t.buf = s.buf.set s.locals.i s.twdr := by
  cases h with
  | readV3 hs => exact .inr ⟨_, rfl, hs, by simp⟩
  | _ => exact .inl (by simp)

/-- Only SEND_HEADER and SEND write the data register, and only such a write draws (R59). -/
theorem Took.twdr_eq {i : Instr} {s t : State} (h : Took i s t) (hi : i ≠ .send) (hh : ∀ a d, i ≠ .sendHeader a d) :
    t.twdr = s.twdr ∧ t.tick = s.tick := by
  cases h <;> simp at hi hh ⊢

theorem Took.fault_eq {i : Instr} {s t : State} (h : Took i s t) (ht : t.seq ≠ .faulted) :
    t.fault = s.fault ∧ t.faultAt = s.faultAt := by
  cases h with
  | unknown => exact absurd rfl ht
  | _ => simp

theorem Took.refused_eq {i : Instr} {s t : State} (h : Took i s t) (ht : t.seq ≠ .refused) :
    t.refused = s.refused := by
  cases h <;> simp at ht ⊢

theorem Took.ret_eq {i : Instr} {s t : State} (h : Took i s t) (hs : s.seq ≠ .ready) (ht : t.seq ≠ .ready) :
    t.ret = s.ret := by
  cases h <;> simp_all

theorem Took.phase_eq {i : Instr} {s t : State} (h : Took i s t) (hi : phaseOf i = none) : t.phase = s.phase := by
  cases h <;> simp [phaseOf] at hi ⊢

/-- What the preamble put in the locals stays until the next request (R20). -/
theorem Took.preamble_eq {i : Instr} {s t : State} (h : Took i s t) (hs : s.seq ≠ .ready) :
    t.locals.n = s.locals.n ∧ t.locals.payload = s.locals.payload ∧ t.locals.cmd = s.locals.cmd ∧
      t.locals.expected = s.locals.expected := by
  cases h <;> simp_all

/-- Settles O34: each clause is one of the frame lemmas of `Took`. -/
theorem frameOfEveryInstruction : Obligations.FrameOfEveryInstruction := by
  intro i s t hexec
  have h := exec_took hexec
  obtain ⟨hfreq, hdata, hreturned, hcalls, hscript, htwsr⟩ := h.keeps_caller
  refine ⟨hfreq, hdata, hreturned, hcalls, hscript, htwsr, h.divisor_eq, h.twbr_eq, fun hi => ?_, h.twdr_eq,
    h.fault_eq, h.refused_eq, h.ret_eq, h.phase_eq, h.preamble_eq⟩
  rcases h.buf_cases with hbuf | ⟨e, hread, -, -⟩
  · exact hbuf
  · exact absurd hread (hi e)

/-- Settles O39: `Took.buf_cases` names the one slot and the one label. -/
theorem frameOfReadSlots : Obligations.FrameOfReadSlots := by
  intro e s t hexec
  rcases (exec_took hexec).buf_cases with hbuf | ⟨e', he, hs, hbuf⟩
  · simp [hbuf]
  · cases he
    rw [hbuf]
    exact ⟨List.length_set, fun j hj => List.getElem?_set_ne (Ne.symm hj), fun hv => absurd hs hv⟩

/-! ## One register access -/

section
variable (s : State)
@[simp] theorem registers_goto (op : Instr) (l : Label) : registers (goto op l s) = registers s := rfl
@[simp] theorem registers_finish (r : Option Result) : registers (finish r s) = registers s := rfl
@[simp] theorem registers_setPhase (p : Phase) : registers (setPhase p s) = registers s := rfl
@[simp] theorem registers_refuse (r : Reason) : registers (refuse r s) = registers s := rfl
@[simp] theorem registers_raiseUnknownStatus (raw : Byte) : registers (raiseUnknownStatus raw s) = registers s := rfl
@[simp] theorem registers_enter (op : Instr) (l : Label) : registers (enter op l s) = registers s := rfl
@[simp] theorem registers_noteStatus (raw : Byte) : registers (noteStatus raw s) = registers s := rfl
@[simp] theorem registers_advanceIndex : registers (advanceIndex s) = registers s := rfl
@[simp] theorem registers_storeSlot (v : Byte) : registers (storeSlot v s) = registers s := rfl
@[simp] theorem registers_headerSetup (a : Byte) (d : Direction) : registers (headerSetup a d s) = registers s := rfl
@[simp] theorem registers_sendSetup : registers (sendSetup s) = registers s := rfl
@[simp] theorem registers_readSetup (e : Bool) : registers (readSetup e s) = registers s := rfl
@[simp] theorem registers_presentOperands (i : Instr) (c : Call) :
    registers (presentOperands i c s) = registers s := by
  cases i <;> rfl

@[simp] theorem performAccess_none : performAccess none s = .next s := rfl
@[simp] theorem performAccess_read (a : Addr) : performAccess (some (.read a)) s = .next s := rfl
@[simp] theorem performAccess_twbr (v : Byte) :
    performAccess (some (.write 0x00B8#16 v)) s = .next (writeTwbr v s) := rfl
@[simp] theorem performAccess_twsr (v : Byte) :
    performAccess (some (.write 0x00B9#16 v)) s = .next (writeTwsr v s) := rfl
@[simp] theorem performAccess_twdr (v : Byte) :
    performAccess (some (.write 0x00BB#16 v)) s = .next (writeTwdr v s) := rfl
@[simp] theorem performAccess_twcr (v : Byte) :
    performAccess (some (.write 0x00BC#16 v)) s = .next (writeTwcr v s) := rfl
end

/-- In Ready there is no label and no access (R21). -/
theorem accessAt_ready {s : State} (h : s.seq = .ready) : accessAt s = none := by
  simp [accessAt, h]

/-- A label's access, said per case of `Took`: a write's state `u` is named, every other label reads or does not
access, so that the registers stay. -/
theorem Took.performs_access {i : Instr} {s t : State} (h : Took i s t) (hi : labelsOf i ≠ []) :
    ∃ u, performAccess (accessAt s) s = .next u ∧ registers t = registers u := by
  cases h with
  | initI0 hs => exact ⟨writeTwsr 0x00#8 s, by simp [accessAt, hs], rfl⟩
  | initI1 hs hd => exact ⟨writeTwbr _ s, by simp [accessAt, hs, hd], rfl⟩
  | initI2 hs => exact ⟨writeTwcr 0x04#8 s, by simp [accessAt, hs], rfl⟩
  | startS0 hs => exact ⟨writeTwcr 0xA4#8 s, by simp [accessAt, hs], rfl⟩
  | stopP0 hs => exact ⟨writeTwcr 0x94#8 s, by simp [accessAt, hs], rfl⟩
  | headerH0 hs => exact ⟨writeTwdr s.locals.payload s, by simp [accessAt, hs], rfl⟩
  | headerH1 hs => exact ⟨writeTwcr 0x84#8 s, by simp [accessAt, hs], rfl⟩
  | sendT0 hs hi hb => exact ⟨writeTwdr _ s, by simp [accessAt, hs, hi, hb], rfl⟩
  | sendT1 hs => exact ⟨writeTwcr 0x84#8 s, by simp [accessAt, hs], rfl⟩
  | readV0 hs hi => exact ⟨writeTwcr s.locals.cmd s, by simp [accessAt, hs, hi], rfl⟩
  | held hs _ hw =>
    refine ⟨s, ?_, rfl⟩
    simp only [List.mem_cons, List.not_mem_nil, or_false] at hw
    rcases hw with rfl | rfl | rfl | rfl | rfl | rfl <;> simp [accessAt, hs]
  | unknown hs _ hw =>
    refine ⟨s, ?_, rfl⟩
    simp only [List.mem_cons, List.not_mem_nil, or_false] at hw
    rcases hw with rfl | rfl | rfl | rfl <;> simp [accessAt, hs]
  | cmdEnable | cmdStart | cmdStop | cmdXfer | cmdXferAck => exact absurd rfl hi
  | _ => exact ⟨s, by simp [accessAt, *], rfl⟩

/-- Settles O12: `Took.performs_access` at a label of the running operation. -/
theorem oneAccessPerStep : Obligations.OneAccessPerStep :=
  fun _ _ _ _ _ hl hexec => (exec_took hexec).performs_access (List.ne_nil_of_mem hl)

/-! ## Requests -/

theorem noOperand_eq_ok {i j : Instr} {b : Byte} (h : noOperand i b = .ok j) : j = i := by
  unfold noOperand at h
  split at h
  · cases h; rfl
  · cases h

/-- A request that decodes is an operation of the sequencer, never a command byte (R70). -/
theorem labelsOf_of_decodeReq {w : ReqWord} {i : Instr} (h : decodeReq w = .ok i) : labelsOf i ≠ [] := by
  unfold decodeReq at h
  split at h
  · cases h
  · split at h
    case h_5 | h_8 => cases h; simp [labelsOf]
    case h_7 =>
      split at h
      · cases h
      · cases h; simp [labelsOf]
    case h_10 => cases h
    all_goals cases noOperand_eq_ok h; simp [labelsOf]

theorem labelsOf_of_request {c : Call} {i : Instr} (h : c.request = .ok i) : labelsOf i ≠ [] := by
  unfold Call.request at h
  split at h
  · exact labelsOf_of_decodeReq h
  · cases h; simp [labelsOf]

/-! ## The step's access -/

/-- A step of the sequencer leaves the registers as the access at its position does; in Ready there is none. -/
theorem sequencerStep_performs_access {s t : State} (h : sequencerStep s = .next t) :
    ∃ u, performAccess (accessAt s) s = .next u ∧ registers t = registers u := by
  rcases sequencerStep_cases h with ⟨hs, -, rfl⟩ | ⟨c, rest, r, hs, -, -, rfl⟩ | ⟨c, rest, i, hs, -, hr, ht⟩ |
    ⟨op, l, hs, hl, ht⟩
  · exact ⟨s, by rw [accessAt_ready hs]; rfl, rfl⟩
  · exact ⟨s, by rw [accessAt_ready hs]; rfl, rfl⟩
  · obtain ⟨u, hu, hreg⟩ := ht.performs_access (labelsOf_of_request hr)
    rw [accessAt_ready (by simpa using hs)] at hu
    cases hu
    exact ⟨s, by rw [accessAt_ready hs]; rfl, by rw [hreg]; simp; rfl⟩
  · exact ht.performs_access (List.ne_nil_of_mem hl)

/-- An access clears the flag only by writing a command, and never sets it (R61). -/
theorem performAccess_intFlag {x : Option Access} {s u : State} (h : performAccess x s = .next u) :
    u.intFlag = s.intFlag ∨
      ∃ v, x = some (.write 0x00BC#16 v) ∧ isCommand v = true ∧ u.intFlag = false ∧ u.twcrWr = some v := by
  match x with
  | none => cases h; exact .inl rfl
  | some (.read _) => cases h; exact .inl rfl
  | some (.write a v) =>
    simp only [performAccess, memWrite] at h
    split at h
    · cases h; exact .inl rfl
    split at h
    · cases h; exact .inl rfl
    split at h
    · cases h; exact .inl (by simp)
    split at h
    · rename_i ha
      cases h
      cases hv : isCommand v with
      | true => exact .inr ⟨v, by rw [ha]; rfl, hv, by rw [writeTwcr_command hv], by simp⟩
      | false => exact .inl (by rw [writeTwcr_plain hv])
    · cases h

/-- Settles O41: the peripheral's move is a completion, and a step of the sequencer changes the flag as its access
does. -/
theorem flagChangesOnlyByCommandAndCompletion : Obligations.FlagChangesOnlyByCommandAndCompletion := by
  intro s t hstep
  obtain ⟨ms, k, ⟨hbusy, st, d, rfl⟩ | hseq⟩ := step_cases hstep
  · exact ⟨fun _ hf => by simp at hf, fun _ _ => ⟨hbusy, rfl⟩⟩
  · obtain ⟨u, hu, hreg⟩ := sequencerStep_performs_access hseq
    have hflag : t.intFlag = u.intFlag := congrArg Registers.intFlag hreg
    have htwcr : t.twcrWr = u.twcrWr := congrArg Registers.twcrWr hreg
    rcases performAccess_intFlag hu with hkeep | ⟨v, hx, hv, hclear, hwrite⟩
    · constructor
      · intro h1 h0
        simp [hflag, hkeep, h1] at h0
      · intro h0 h1
        simp [hflag, hkeep, h0] at h1
    · exact ⟨fun _ _ => ⟨v, hx, hv, htwcr.trans hwrite⟩, fun _ h1 => by simp [hflag, hclear] at h1⟩

/-! ## What each field is written by -/

theorem Took.divisor_cases {i : Instr} {s t : State} (h : Took i s t) :
    t.divisor = s.divisor ∨ (s.divisor = none ∧ s.seq = .run .new .f0) := by
  cases h with
  | newDone hs _ hd => exact .inr ⟨hd, hs⟩
  | _ => exact .inl (by simp)

theorem Took.twbr_cases {i : Instr} {s t : State} (h : Took i s t) :
    t.twbr = s.twbr ∨ (s.seq = .run .init .i1 ∧ s.divisor = some t.twbr) := by
  cases h with
  | initI1 hs hd => exact .inr ⟨hs, by simpa using hd⟩
  | _ => exact .inl (by simp)

/-- Settles O42, field by field from the inversion lemmas of `Took`. -/
theorem onlyTheseStepsWrite : Obligations.OnlyTheseStepsWrite := by
  intro s t hstep
  obtain ⟨ms, k, ⟨hbusy, st, d, rfl⟩ | hseq⟩ := step_cases hstep
  · simp [hbusy]
  rcases sequencerStep_cases hseq with ⟨hs, -, rfl⟩ | ⟨c, rest, r, hs, -, -, rfl⟩ | ⟨c, rest, i, hs, -, hr, ht⟩ |
    ⟨op, l, hs, hl, ht⟩
  · simp
  · simp
  · replace hs : s.seq = .ready := hs
    have hdivisor : t.divisor = s.divisor := by simpa [hs] using ht.divisor_cases
    have htwbr : t.twbr = s.twbr := by simpa [hs] using ht.twbr_cases
    obtain ⟨-, -, -, -, -, htwsr⟩ := ht.keeps_caller
    exact ⟨fun hne => absurd hdivisor hne, fun hne => absurd htwbr hne,
      fun hne => absurd (htwsr.trans (by simp)) hne, fun _ => .inl hs⟩
  · obtain ⟨-, -, -, -, -, htwsr⟩ := ht.keeps_caller
    refine ⟨ht.divisor_cases.resolve_left, ht.twbr_cases.resolve_left, fun hne => absurd htwsr hne, fun hne => ?_⟩
    obtain ⟨e, -, hv, -⟩ := ht.buf_cases.resolve_left hne
    exact .inr ⟨e, hv⟩

/-! ## Results -/

theorem resultOf_ok_or_err (required st : BusStatus) :
    resultOf required st = .ok ∨ ∃ e, resultOf required st = .err e := by
  unfold resultOf
  split
  · exact .inl rfl
  · exact .inr ⟨st, rfl⟩

/-- Settles O44, by the cases of `Took` that return. -/
theorem resultTaxonomy : Obligations.ResultTaxonomy := by
  intro op l s t hs hexec ht
  cases exec_took hexec with
  | startS2 | headerH3 => simpa using resultOf_ok_or_err _ _
  | sendErr | readErr => exact .inr ⟨_, rfl⟩
  | sendEnd | readEnd => exact .inl rfl
  | newDone | initI2 | stopP1 | decodeX0 | awaitA0 => rfl
  | held | cmdEnable | cmdStart | cmdStop | cmdXfer | cmdXferAck => simp [hs] at ht
  | _ => cases ht

/-! ## Steps -/

theorem sequencerStep_none {s : State} (hs : s.seq = .ready) (hu : upcoming s = []) :
    sequencerStep s = .next { s with calls := [] } := by
  simp [sequencerStep, hs, hu]

theorem sequencerStep_call {s : State} {c : Call} {rest : List Call} {i : Instr} (hs : s.seq = .ready)
    (hu : upcoming s = c :: rest) (hr : c.request = .ok i) :
    sequencerStep s = exec i (presentOperands i c { s with calls := rest }) := by
  simp [sequencerStep, hs, hu, takeCall, hr]

/-- Settles O45: in Ready the step is `takeCall` of the first upcoming call (R21, R84). -/
theorem stepRunsRequest : Obligations.StepRunsRequest := by
  intro s hs hb
  rw [step_idle hb]
  refine ⟨fun hc => ?_, sequencerStep_none hs, fun c rest w i hu hf hd => ?_, fun c rest a d hu hf => ?_⟩
  · rw [sequencerStep_none hs (upcoming_nil hc), drop_no_calls hc]
  · exact sequencerStep_call hs hu (by simp [Call.request, hf, hd])
  · exact sequencerStep_call (i := .sendHeader a d) hs hu (by simp [Call.request, hf])

/-- Settles O46: idle or made to wait, the peripheral leaves the turn to the running operation. -/
theorem stepRunsOperation : Obligations.StepRunsOperation := by
  intro s op l hs hl
  refine ⟨fun hb => ?_, fun ms hb hm => ?_⟩
  · rw [step_idle hb, sequencerStep_run hs hl]
  · rw [step_wait hb hm, sequencerStep_run (s := { s with script := ms }) hs hl]

/-! ## Each instruction, label by label -/

/-- Settles O19, a clause per label from the equations of `turn` and of the shared steps. -/
theorem startSteps : Obligations.StartSteps := by
  intro s
  refine ⟨fun d hd hs => ?_, fun hs => ?_, fun hs hf => ?_, fun st hs hst => ?_⟩
  · exact (turn_ready hs _ _ _).trans (accept_some hd _ _ _)
  · exact turn_run hs _ _
  · exact (turn_run hs _ _).trans (awaitStep_done hf _)
  · refine ((turn_run hs _ _).trans (checkStatus_named hst _)).trans ?_
    simp [finish, noteStatus, resultOf, hst]

/-- Settles O20, likewise; no label of STOP reads the status (R104). -/
theorem stopSteps : Obligations.StopSteps := by
  intro s
  refine ⟨fun d hd hs => ?_, fun hs => ?_, fun hs hf => ?_⟩
  · exact (turn_ready hs _ _ _).trans (accept_some hd _ _ _)
  · exact turn_run hs _ _
  · exact (turn_run hs _ _).trans (awaitStep_done hf _)

/-- Settles O25, likewise. -/
theorem awaitSteps : Obligations.AwaitSteps := by
  intro s
  refine ⟨fun d hd hs => ?_, fun hs hf => ?_, fun hs hf => ?_⟩
  · exact (turn_ready hs _ _ _).trans (accept_some hd _ _ _)
  · exact (turn_run hs _ _).trans (awaitStep_done hf _)
  · exact (turn_run hs _ _).trans (awaitStep_held hf _)

/-- The fault's record at the label where the byte was read (R119). -/
theorem raiseUnknownStatus_at {s : State} {op : Instr} {l : Label} (hs : s.seq = .run op l)
    (hd : decodeStatus s.twsrRd = none) :
    raiseUnknownStatus s.twsrRd (noteStatus s.twsrRd s) =
      { s with
        fault := some s.twsrRd, faultAt := some (op, l), seq := .faulted,
        locals := { s.locals with raw := s.twsrRd, status := none } } := by
  simp [raiseUnknownStatus, noteStatus, position, hs, hd]

/-- Settles O27: all four status steps are one `checkStatus`. -/
theorem unknownStatusFaults : Obligations.UnknownStatusFaults := by
  intro op l s hop hs hd
  rw [← raiseUnknownStatus_at hs hd]
  rcases hop with ⟨rfl, rfl⟩ | ⟨a, d, rfl, rfl⟩ | ⟨rfl, rfl⟩ | ⟨e, rfl, rfl⟩
  all_goals exact (turn_run hs _ _).trans (checkStatus_absent hd _)

/-- The divisor of an admitted frequency (R93). -/
theorem divisorOf_admitted {f : Nat} (h0 : f ≠ 0) (h8 : 8 ≤ 16000000 / (2 * f)) (h263 : 16000000 / (2 * f) ≤ 263) :
    divisorOf f = .ok (BitVec.ofNat 8 (16000000 / (2 * f) - 8)) := by
  have hq : ¬ (16000000 / (2 * f) < 8 ∨ 255 < 16000000 / (2 * f) - 8) := by omega
  rw [divisorOf, if_neg h0]
  exact if_neg hq

/-- Settles O15: the frequency passes the tests of R93, and then the object that exists stops NEW (log 9). -/
theorem secondNewStops : Obligations.SecondNewStops := by
  intro s d hs h0 h8 h263 hd
  refine (turn_run hs _ _).trans ?_
  simp only [divisorOf_admitted h0 h8 h263, hd]

/-- Settles O48: the fields of `State.reset` as R39 lists them. -/
theorem powerUp : Obligations.PowerUp := by
  unfold Obligations.PowerUp
  exact ⟨rfl, rfl, rfl, rfl, rfl, rfl, rfl, rfl, rfl, rfl⟩

/-! ## The ghost phase -/

/-- Two outcomes that agree but for the phase of the next state. -/
def AgreeButPhase (o o' : StepOutcome) : Prop :=
  match o with
  | .next t => ∃ q, o' = .next (setPhase q t)
  | .fault f => o' = .fault f
  | .refused r => o' = .refused r

theorem AgreeButPhase.next {t : State} {q : Phase} : AgreeButPhase (.next t) (.next (setPhase q t)) := ⟨q, rfl⟩
theorem AgreeButPhase.fault {f : Fault} : AgreeButPhase (.fault f) (.fault f) := rfl
theorem AgreeButPhase.refused {r : Refusal} : AgreeButPhase (.refused r) (.refused r) := rfl

/-- A continuation that does not read the phase. -/
def PhaseBlind (k : State → StepOutcome) : Prop := ∀ s p, AgreeButPhase (k s) (k (setPhase p s))

section
variable {op : Instr} {s : State} {p : Phase}

/-- `turn` reads the position and the marks, which the phase does not touch. -/
theorem turn_agree {a a' : StepOutcome} {b b' : Label → StepOutcome} (ha : AgreeButPhase a a')
    (hb : ∀ l, AgreeButPhase (b l) (b' l)) : AgreeButPhase (turn op s a b) (turn op (setPhase p s) a' b') := by
  unfold turn
  rw [setPhase_seq]
  split
  · exact ha
  · split
    · exact hb _
    · exact .refused
  · exact .fault
  · exact .refused

theorem ite_agree {c : Prop} [Decidable c] {a a' b b' : StepOutcome} (ha : AgreeButPhase a a')
    (hb : AgreeButPhase b b') : AgreeButPhase (if c then a else b) (if c then a' else b') := by
  split
  · exact ha
  · exact hb

theorem accept_agree {l : Label} {setup : State → State}
    (h : ∀ u, ∃ q, setup (setPhase p u) = setPhase q (setup u)) :
    AgreeButPhase (accept op l setup s) (accept op l setup (setPhase p s)) := by
  obtain ⟨q, hq⟩ := h (enter op l s)
  cases hd : s.divisor with
  | none => rw [accept_none hd, accept_none (s := setPhase p s) hd]; exact .next
  | some d => rw [accept_some hd, accept_some (s := setPhase p s) hd]; exact ⟨q, congrArg _ hq⟩

theorem writeTwdr_setPhase (v : Byte) : writeTwdr v (setPhase p s) = setPhase p (writeTwdr v s) := by
  unfold writeTwdr; rw [setPhase_intFlag]; split <;> rfl

theorem writeTwcr_setPhase (v : Byte) : writeTwcr v (setPhase p s) = setPhase p (writeTwcr v s) := by
  unfold writeTwcr; split <;> rfl

theorem awaitStep_agree {k : State → StepOutcome} (hk : PhaseBlind k) :
    AgreeButPhase (awaitStep k s) (awaitStep k (setPhase p s)) := by
  unfold awaitStep
  rw [completionFlag_eq, completionFlag_eq, setPhase_intFlag]
  split
  · exact hk s p
  · exact .next

/-- The status check reads the status register alone. -/
theorem checkStatus_agree {k : BusStatus → State → StepOutcome} (hk : ∀ st, PhaseBlind (k st)) :
    AgreeButPhase (checkStatus k s) (checkStatus k (setPhase p s)) := by
  cases hd : decodeStatus s.twsrRd with
  | none => rw [checkStatus_absent hd, checkStatus_absent (s := setPhase p s) hd]; exact .next
  | some st => rw [checkStatus_named hd, checkStatus_named (s := setPhase p s) hd]; exact hk st _ p

theorem issue_agree (v : Byte) (l : Label) : AgreeButPhase (issue v op l s) (issue v op l (setPhase p s)) := by
  rw [issue_eq, issue_eq, writeTwcr_setPhase]
  exact .next
end

theorem memWrite_twcr_phaseBlind (v : Byte) : PhaseBlind (memWrite Config.twcrAddr v) := fun s p => by
  rw [memWrite_twcr, memWrite_twcr, writeTwcr_setPhase]
  exact .next

theorem goto_phaseBlind (op : Instr) (l : Label) : PhaseBlind fun u => .next (goto op l u) := fun _ _ => .next

theorem finish_phaseBlind (r : Option Result) : PhaseBlind fun u => .next (finish r u) := fun _ _ => .next

theorem execNew_phaseBlind : PhaseBlind execNew := by
  intro s p
  refine turn_agree .next fun l => ?_
  cases l
  case f0 =>
    rw [setPhase_freq, setPhase_divisor]
    cases divisorOf s.freq with
    | error r => exact .next
    | ok d =>
      cases s.divisor with
      | none => exact .next
      | some _ => exact .refused
  all_goals exact .fault

theorem execInit_phaseBlind : PhaseBlind execInit := by
  intro s p
  refine turn_agree (accept_agree fun u => ⟨p, rfl⟩) fun l => ?_
  cases l
  case i0 => exact .next
  case i1 =>
    rw [setPhase_divisor]
    cases s.divisor with
    | none => exact .next
    | some d => exact .next
  case i2 => exact .next
  all_goals exact .fault

theorem execStart_phaseBlind : PhaseBlind execStart := by
  intro s p
  refine turn_agree (accept_agree fun u => ⟨.startPending, rfl⟩) fun l => ?_
  cases l
  case s0 => exact issue_agree _ _
  case s1 => exact awaitStep_agree (goto_phaseBlind _ _)
  case s2 => exact checkStatus_agree fun _ => finish_phaseBlind _
  all_goals exact .fault

theorem execStop_phaseBlind : PhaseBlind execStop := by
  intro s p
  refine turn_agree (accept_agree fun u => ⟨.stopPending, rfl⟩) fun l => ?_
  cases l
  case p0 => exact issue_agree _ _
  case p1 => exact awaitStep_agree fun u q => ⟨.idle, rfl⟩
  all_goals exact .fault

theorem execSendHeader_phaseBlind (a : Byte) (dir : Direction) : PhaseBlind (execSendHeader a dir) := by
  intro s p
  refine turn_agree ?_ fun l => ?_
  · rw [setPhase_divisor]
    cases s.divisor with
    | none => exact .next
    | some d =>
      exact ite_agree .next (accept_agree fun u => ⟨.headerPending, rfl⟩)
  · cases l
    case h0 =>
      simp only [memWrite_twdr, andThen_next, setPhase_locals, writeTwdr_setPhase]
      exact .next
    case h1 => exact issue_agree _ _
    case h2 => exact awaitStep_agree (goto_phaseBlind _ _)
    case h3 => exact checkStatus_agree fun _ _ _ => .next
    all_goals exact .fault

theorem execSend_phaseBlind : PhaseBlind execSend := by
  intro s p
  refine turn_agree (accept_agree fun u => ⟨.sendPending, rfl⟩) fun l => ?_
  cases l
  case t0 =>
    refine ite_agree .next ?_
    simp only [setPhase_locals, setPhase_data]
    cases s.data[s.locals.i]? with
    | none => exact .fault
    | some b =>
      simp only [memWrite_twdr, andThen_next, writeTwdr_setPhase]
      exact .next
  case t1 => exact issue_agree _ _
  case t2 => exact awaitStep_agree (goto_phaseBlind _ _)
  case t3 => exact checkStatus_agree fun _ _ _ => ite_agree .next .next
  all_goals exact .fault

theorem execRead_phaseBlind (e : Bool) : PhaseBlind (execRead e) := by
  intro s p
  refine turn_agree (accept_agree fun u => ⟨.receivePending, rfl⟩) fun l => ?_
  cases l
  case v0 => exact ite_agree .next (issue_agree _ _)
  case v1 => exact awaitStep_agree (goto_phaseBlind _ _)
  case v2 => exact checkStatus_agree fun _ _ _ => ite_agree .next .next
  case v3 => exact ite_agree .next .fault
  all_goals exact .fault

theorem execDecode_phaseBlind (raw : Byte) : PhaseBlind (execDecode raw) := by
  intro s p
  refine turn_agree (accept_agree fun u => ⟨p, rfl⟩) fun l => ?_
  cases l
  case x0 => exact .next
  all_goals exact .fault

theorem execAwait_phaseBlind : PhaseBlind execAwait := by
  intro s p
  refine turn_agree (accept_agree fun u => ⟨p, rfl⟩) fun l => ?_
  cases l
  case a0 => exact awaitStep_agree (finish_phaseBlind _)
  all_goals exact .fault

theorem exec_phaseBlind (i : Instr) : PhaseBlind (exec i) := by
  cases i with
  | new => exact execNew_phaseBlind
  | init => exact execInit_phaseBlind
  | start => exact execStart_phaseBlind
  | stop => exact execStop_phaseBlind
  | sendHeader a dir => exact execSendHeader_phaseBlind a dir
  | send => exact execSend_phaseBlind
  | read e => exact execRead_phaseBlind e
  | decode raw => exact execDecode_phaseBlind raw
  | await => exact execAwait_phaseBlind
  | cmdEnable | cmdStart | cmdStop | cmdXfer | cmdXferAck => exact memWrite_twcr_phaseBlind _

/-- Settles O43: every instruction is `PhaseBlind`. -/
theorem phaseIsNeverRead : Obligations.PhaseIsNeverRead := by
  intro i s p
  have h : AgreeButPhase (exec i s) (exec i (setPhase p s)) := exec_phaseBlind i s p
  refine ⟨fun t ht => ?_, fun f hf => ?_, fun r hr => ?_⟩
  · rw [ht] at h; exact h
  · rw [hf] at h; exact h
  · rw [hr] at h; exact h

/-! ## The invariant

`Inv` is kept group by group: one lemma for each group of its fields, each a case split on `Took`, and one lemma for the
completion. -/

/-! ### Consequences -/

/-- Away from an await of a command none is in flight (R129). -/
theorem Inv.busy_of_quiet {s : State} (h : Inv s) (hq : s.seq.awaitsCommand = false) : s.busy = false := by
  cases hb : s.busy with
  | false => rfl
  | true => rw [h.busy_awaits hb] at hq; cases hq

/-- With the flag 1 no command is in flight (R129). -/
theorem Inv.busy_of_flag {s : State} (h : Inv s) (hf : s.intFlag = true) : s.busy = false := by
  cases hw : s.seq.awaitsCommand with
  | false => exact h.busy_of_quiet hw
  | true => simpa [hf] using h.await_flag hw

theorem Inv.fault_none {s : State} (h : Inv s) (hs : s.seq ≠ .faulted) : s.fault = none := by
  simpa [hs] using h.fault_mark

theorem Inv.refused_none {s : State} (h : Inv s) (hs : s.seq ≠ .refused) : s.refused = none := by
  simpa [hs] using h.refusal_mark

/-- The byte READ writes at `V0` is its own command, one of the five bytes, with bit 7 = 1 (R74, R112). -/
theorem Inv.read_command {s : State} {e : Bool} {l : Label} (h : Inv s) (hs : s.seq = .run (.read e) l) :
    some s.locals.cmd = commandOf (.read e) ∧ isCommand s.locals.cmd = true ∧
      s.locals.cmd ∈ [0x04#8, 0xA4#8, 0x94#8, 0x84#8, 0xC4#8] := by
  have hl := h.locals_held
  rw [localsHeld, hs] at hl
  obtain ⟨-, hcmd, -⟩ := hl
  rw [hcmd]
  cases e
  · exact ⟨rfl, rfl, by decide⟩
  · exact ⟨rfl, rfl, by decide⟩

/-! ### The registers -/

/-- The part of `Inv` that speaks of the registers alone. -/
structure RegistersHeld (r : Registers) : Prop where
  pending_busy : r.pending = if r.busy then r.twcrWr.map (fun v => (v, r.twdr)) else none
  control_bytes : ∀ v, r.twcrWr = some v → v ∈ [0x04#8, 0xA4#8, 0x94#8, 0x84#8, 0xC4#8]
  status_bytes : ∀ v, r.twsrWr = some v → v = 0x00#8

theorem Inv.registers_held {s : State} (h : Inv s) : RegistersHeld (registers s) :=
  ⟨h.pending_busy, h.control_bytes, h.status_bytes⟩

section
variable {s : State} (h : RegistersHeld (registers s))
include h

theorem RegistersHeld.writeTwbr (v : Byte) : RegistersHeld (registers (writeTwbr v s)) :=
  ⟨h.pending_busy, h.control_bytes, h.status_bytes⟩

theorem RegistersHeld.writeTwsr : RegistersHeld (registers (writeTwsr 0x00#8 s)) :=
  ⟨h.pending_busy, h.control_bytes, fun _ hv => (Option.some.inj hv).symm⟩

theorem RegistersHeld.writeTwdr (hb : s.busy = false) (v : Byte) : RegistersHeld (registers (writeTwdr v s)) := by
  obtain ⟨hp, hc, hst⟩ := h
  refine ⟨?_, by simpa [registers] using hc, by simpa [registers] using hst⟩
  simpa [registers, hb] using hp

theorem RegistersHeld.writeTwcr (hb : s.busy = false) {v : Byte}
    (hv : v ∈ [0x04#8, 0xA4#8, 0x94#8, 0x84#8, 0xC4#8]) : RegistersHeld (registers (writeTwcr v s)) := by
  refine ⟨?_, fun w hw => ?_, by simpa [registers] using h.status_bytes⟩
  · cases hv : isCommand v with
    | true => rw [writeTwcr_command hv]; rfl
    | false =>
      rw [writeTwcr_plain hv]
      simpa [registers, hb] using h.pending_busy
  · have hwv : v = w := by simpa [registers] using hw
    exact hwv ▸ hv

end

/-- A data write is made with no command in flight, and a control write is one of the five bytes. -/
theorem Took.keeps_registers {i : Instr} {s t : State} (ht : Took i s t) (hi : labelsOf i ≠ []) (h : Inv s) :
    RegistersHeld (registers t) := by
  have hr := h.registers_held
  have hq : s.seq.awaitsCommand = false → s.busy = false := h.busy_of_quiet
  cases ht with
  | initI0 => exact hr.writeTwsr
  | initI1 => exact hr.writeTwbr _
  | initI2 hs | startS0 hs | stopP0 hs | headerH1 hs | sendT1 hs =>
    exact hr.writeTwcr (hq (by rw [hs]; rfl)) (by decide)
  | readV0 hs =>
    obtain ⟨-, -, hmem⟩ := h.read_command hs
    exact hr.writeTwcr (hq (by rw [hs]; rfl)) hmem
  | headerH0 hs | sendT0 hs => exact hr.writeTwdr (hq (by rw [hs]; rfl)) _
  | cmdEnable | cmdStart | cmdStop | cmdXfer | cmdXferAck => exact absurd rfl hi
  | _ => exact hr

/-! ### The position -/

/-- A request is considered in Ready, and a label's step is taken by the running operation (R21, R51). -/
theorem Took.ready_or_run {i : Instr} {s t : State} (ht : Took i s t) (hi : labelsOf i ≠ []) :
    s.seq = .ready ∨ ∃ l, s.seq = .run i l := by
  cases ht with
  | noInstance | newEnter | initEnter | startEnter | stopEnter | headerWide | headerEnter | sendEnter | readEnter
  | decodeEnter | awaitEnter => exact .inl ‹_›
  | cmdEnable | cmdStart | cmdStop | cmdXfer | cmdXferAck => exact absurd rfl hi
  | _ => exact .inr ⟨_, ‹_›⟩

theorem Took.keeps_label {i : Instr} {s t : State} (ht : Took i s t) (hi : labelsOf i ≠ []) : t.seq.labelled := by
  cases ht with
  | held hs hl => rw [hs]; exact hl
  | cmdEnable | cmdStart | cmdStop | cmdXfer | cmdXferAck => exact absurd rfl hi
  | _ => simp [Seq.labelled, labelsOf]

/-- The driver object exists wherever an operation other than NEW runs (R139). -/
theorem Took.keeps_driver {i : Instr} {s t : State} (ht : Took i s t) (hi : labelsOf i ≠ []) (h : Inv s) :
    t.divisor = none → t.seq = .ready ∨ t.seq = .run .new .f0 ∨ t.seq = .refused := by
  intro hnone
  have hnew : ∀ l, s.seq = .run i l → s.divisor = none → i = .new := by
    intro l hs hd
    rcases h.driver hd with hp | hp | hp
    · simp [hs] at hp
    · rw [hs] at hp; cases hp; rfl
    · simp [hs] at hp
  cases ht with
  | noInstance | newRefused | initI1None | headerWide => exact .inr (.inr rfl)
  | newEnter => exact .inr (.inl rfl)
  | newDone | initI2 | startS2 | stopP1 | headerH3 | sendEnd | sendErr | readEnd | readErr | decodeX0 | awaitA0 =>
    exact .inl rfl
  | initEnter _ hd | startEnter _ hd | stopEnter _ hd | headerEnter _ hd | sendEnter _ hd | readEnter _ hd
  | decodeEnter _ hd | awaitEnter _ hd => cases hd.symm.trans hnone
  | held => exact h.driver hnone
  | unknown hs hl hw =>
    cases hnew _ hs hnone
    cases List.mem_singleton.1 hl
    simp at hw
  | cmdEnable | cmdStart | cmdStop | cmdXfer | cmdXferAck => exact absurd rfl hi
  | _ => cases hnew _ ‹_› (by simpa using hnone)

theorem Took.keeps_result {i : Instr} {s t : State} (ht : Took i s t) (hi : labelsOf i ≠ []) (h : Inv s) :
    t.seq.running = true → t.ret = none := by
  intro hrun
  cases ht with
  | noInstance | newRefused | newDone | initI1None | initI2 | startS2 | stopP1 | headerWide | headerH3 | sendEnd
  | sendErr | readEnd | readErr | decodeX0 | awaitA0 | unknown => cases hrun
  | newEnter | initEnter | startEnter | stopEnter | headerEnter | sendEnter | readEnter | decodeEnter | awaitEnter =>
    rfl
  | held => exact h.no_result hrun
  | cmdEnable | cmdStart | cmdStop | cmdXfer | cmdXferAck => exact absurd rfl hi
  | _ => simpa using h.no_result (by simp [*, Seq.running])

/-- Each mark is set exactly on the way into its terminal position (R26, R27). -/
theorem Took.keeps_marks {i : Instr} {s t : State} (ht : Took i s t) (hi : labelsOf i ≠ []) (h : Inv s) :
    (t.fault.isSome = true ↔ t.seq = .faulted) ∧ (∀ raw, t.fault = some raw → decodeStatus raw = none) ∧
      (t.refused.isSome = true ↔ t.seq = .refused) := by
  have hlive : s.fault = none ∧ s.refused = none := by
    rcases ht.ready_or_run hi with hs | ⟨l, hs⟩ <;>
      exact ⟨h.fault_none (by simp [hs]), h.refused_none (by simp [hs])⟩
  obtain ⟨hf, hr⟩ := hlive
  cases ht with
  | held hs => simp [hs, hf, hr]
  | unknown hs hl hw hd => simp [hr, hd]
  | cmdEnable | cmdStart | cmdStop | cmdXfer | cmdXferAck => exact absurd rfl hi
  | _ => simp [hf, hr]

/-! ### The flag and the command in flight -/

/-- A command raises `busy` on the way to its await, and only the flag 1 leads on from there (R129, R147). -/
theorem Took.keeps_flags {i : Instr} {s t : State} (ht : Took i s t) (hi : labelsOf i ≠ []) (h : Inv s) :
    (t.busy = true → t.seq.awaitsCommand = true) ∧ (t.seq.awaitsCommand = true → t.intFlag = !t.busy) ∧
      (t.seq.afterCompletion = true → t.intFlag = true) := by
  have hq : s.seq.awaitsCommand = false → s.busy = false := h.busy_of_quiet
  cases ht with
  | held => exact ⟨h.busy_awaits, h.await_flag, h.after_flag⟩
  | startS0 | stopP0 | headerH1 | sendT1 =>
    rw [writeTwcr_command (by decide)]
    exact ⟨fun _ => rfl, fun _ => rfl, fun hc => by cases hc⟩
  | readV0 hs =>
    obtain ⟨-, hcmd, -⟩ := h.read_command hs
    rw [writeTwcr_command hcmd]
    exact ⟨fun _ => rfl, fun _ => rfl, fun hc => by cases hc⟩
  | startS1 _ hf | stopP1 _ hf | headerH2 _ hf | sendT2 _ hf | readV1 _ hf | awaitA0 _ hf =>
    simp [h.busy_of_flag hf, hf, Seq.awaitsCommand]
  | readV2 hs =>
    have hf : s.intFlag = true := h.after_flag (by rw [hs]; rfl)
    simp [h.busy_of_flag hf, hf, Seq.awaitsCommand]
  | initI2 hs =>
    rw [writeTwcr_plain (by decide)]
    simp [hq (by rw [hs]; rfl), Seq.awaitsCommand, Seq.afterCompletion]
  | cmdEnable | cmdStart | cmdStop | cmdXfer | cmdXferAck => exact absurd rfl hi
  | unknown hs hl hw =>
    have hb : s.busy = false := hq <| by
      simp only [List.mem_cons, List.not_mem_nil, or_false] at hw
      rcases hw with rfl | rfl | rfl | rfl <;> rw [hs] <;> rfl
    simp [hb, Seq.awaitsCommand, Seq.afterCompletion]
  | _ =>
    have hb : s.busy = false := hq (by simp [*, Seq.awaitsCommand])
    simp [hb, Seq.awaitsCommand, Seq.afterCompletion]

/-! ### The running operation -/

theorem operationHeld_run {s : State} {op : Instr} {l : Label} (hs : s.seq = .run op l) :
    operationHeld s ↔ (∀ p, phaseOf op = some p → s.phase = p) ∧
      ((Seq.run op l).awaitsCommand = true → s.twcrWr = commandOf op) := by
  rw [operationHeld, hs]

/-- Where no request runs there is no operation to speak of. -/
theorem operationHeld_rest {s : State} (hs : s.seq.atRest = true) : operationHeld s := by
  unfold operationHeld
  split
  · rw [‹s.seq = _›] at hs; cases hs
  · trivial

/-- Acceptance sets the phase, and each operation writes its own command on the way to its await (R38, R80). -/
theorem Took.keeps_operation {i : Instr} {s t : State} (ht : Took i s t) (hi : labelsOf i ≠ []) (h : Inv s) :
    operationHeld t := by
  have hphase : ∀ l, s.seq = .run i l → ∀ p, phaseOf i = some p → s.phase = p := fun l hs =>
    ((operationHeld_run hs).1 h.operation).1
  cases ht with
  | held => exact h.operation
  | startS0 hs | stopP0 hs | headerH1 hs | sendT1 hs =>
    exact (operationHeld_run rfl).2 ⟨by simpa using hphase _ hs, fun _ => by simp [commandOf]⟩
  | readV0 hs =>
    obtain ⟨hcmd, -⟩ := h.read_command hs
    exact (operationHeld_run rfl).2 ⟨by simpa using hphase _ hs, fun _ => by simp [hcmd]⟩
  | newEnter | initEnter | startEnter | stopEnter | headerEnter | sendEnter | readEnter | decodeEnter | awaitEnter =>
    simp [operationHeld, phaseOf, Seq.awaitsCommand]
  | noInstance | newRefused | newDone | initI1None | initI2 | startS2 | stopP1 | headerWide | headerH3 | sendEnd
  | sendErr | readEnd | readErr | decodeX0 | awaitA0 | unknown => exact operationHeld_rest rfl
  | cmdEnable | cmdStart | cmdStop | cmdXfer | cmdXferAck => exact absurd rfl hi
  | _ => exact (operationHeld_run rfl).2 ⟨by simpa using hphase _ ‹_›, fun hw => by cases hw⟩

theorem localsHeld_send {s : State} {l : Label} (hs : s.seq = .run .send l) :
    localsHeld s ↔ s.locals.n = s.data.length ∧
      if l = .t0 then s.locals.i ≤ s.locals.n else s.locals.i < s.locals.n := by
  rw [localsHeld, hs]

theorem localsHeld_read {s : State} {e : Bool} {l : Label} (hs : s.seq = .run (.read e) l) :
    localsHeld s ↔ s.locals.n = s.buf.length ∧ s.locals.cmd = (if e then 0xC4#8 else 0x84#8) ∧
      s.locals.expected = (if e then .dataReceivedAckSent else .dataReceivedNackSent) ∧
      if l = .v0 then s.locals.i ≤ s.locals.n else s.locals.i < s.locals.n := by
  rw [localsHeld, hs]

/-- The index stays inside the caller's sequence: it is compared with `n` where it is used next (R110, R112). -/
theorem Took.keeps_locals {i : Instr} {s t : State} (ht : Took i s t) (hi : labelsOf i ≠ []) (h : Inv s) :
    localsHeld t := by
  have hl := h.locals_held
  cases ht with
  | held => exact hl
  | headerEnter _ _ ha => exact ⟨BitVec.not_lt.1 ha, rfl, rfl⟩
  | sendEnter => exact ⟨rfl, Nat.zero_le _⟩
  | readEnter => exact ⟨rfl, rfl, rfl, Nat.zero_le _⟩
  | sendT0 hs hne =>
    obtain ⟨hn, hle⟩ := (localsHeld_send hs).1 hl
    exact (localsHeld_send rfl).2 ⟨by simpa using hn, by simpa using Nat.lt_of_le_of_ne hle hne⟩
  | readV0 hs hne =>
    obtain ⟨hn, hcmd, hexp, hle⟩ := (localsHeld_read hs).1 hl
    exact (localsHeld_read rfl).2
      ⟨by simpa using hn, by simpa using hcmd, by simpa using hexp, by simpa using Nat.lt_of_le_of_ne hle hne⟩
  | headerH0 hs | headerH1 hs | headerH2 hs | sendT1 hs | sendT2 hs | sendT3 hs | readV1 hs | readV2 hs | readV3 hs =>
    simpa [localsHeld, hs] using hl
  | cmdEnable | cmdStart | cmdStop | cmdXfer | cmdXferAck => exact absurd rfl hi
  | _ => trivial

/-! ### The step -/

/-- Every request and every label's step keeps the invariant. -/
theorem Took.keeps_inv {i : Instr} {s t : State} (ht : Took i s t) (hi : labelsOf i ≠ []) (h : Inv s) : Inv t := by
  obtain ⟨hpending, hcontrol, hstatus⟩ := ht.keeps_registers hi h
  obtain ⟨hbusy, hawait, hafter⟩ := ht.keeps_flags hi h
  obtain ⟨hfault, habsent, hrefused⟩ := ht.keeps_marks hi h
  exact
    { labelled := ht.keeps_label hi
      busy_awaits := hbusy
      await_flag := hawait
      after_flag := hafter
      pending_busy := hpending
      control_bytes := hcontrol
      status_bytes := hstatus
      fault_mark := hfault
      fault_absent := habsent
      refusal_mark := hrefused
      no_result := ht.keeps_result hi h
      driver := ht.keeps_driver hi h
      operation := ht.keeps_operation hi h
      locals_held := ht.keeps_locals hi h }

/-- In Ready the invariant is about the registers and the marks alone. -/
theorem inv_of_ready {s : State} (hs : s.seq = .ready) (hr : RegistersHeld (registers s)) (hb : s.busy = false)
    (hf : s.fault = none) (hm : s.refused = none) : Inv s where
  labelled := by simp [Seq.labelled, hs]
  busy_awaits := by simp [hb]
  await_flag := by simp [hs, Seq.awaitsCommand]
  after_flag := by simp [hs, Seq.afterCompletion]
  pending_busy := hr.pending_busy
  control_bytes := hr.control_bytes
  status_bytes := hr.status_bytes
  fault_mark := by simp [hf, hs]
  fault_absent := by simp [hf]
  refusal_mark := by simp [hm, hs]
  no_result := by simp [hs, Seq.running]
  driver := fun _ => .inl hs
  operation := operationHeld_rest (by rw [hs]; rfl)
  locals_held := by simp [localsHeld, hs]

/-- In Ready the invariant does not speak of the caller's calls and operands. -/
theorem Inv.presented {s u : State} (h : Inv s) (hs : s.seq = .ready) (hu : u.seq = .ready)
    (hreg : registers u = registers s) (hf : u.fault = s.fault) (hm : u.refused = s.refused) : Inv u :=
  inv_of_ready hu (hreg ▸ h.registers_held)
    ((congrArg Registers.busy hreg).trans (h.busy_of_quiet (by rw [hs]; rfl)))
    (hf.trans (h.fault_none (by simp [hs]))) (hm.trans (h.refused_none (by simp [hs])))

/-- A refusal in Ready (R123). -/
theorem Inv.refuse {s : State} (h : Inv s) (hs : s.seq = .ready) (r : Reason) : Inv (refuse r s) :=
  { labelled := trivial
    busy_awaits := by simp [h.busy_of_quiet (show s.seq.awaitsCommand = false by rw [hs]; rfl)]
    await_flag := fun hw => by cases hw
    after_flag := fun hc => by cases hc
    pending_busy := h.pending_busy
    control_bytes := h.control_bytes
    status_bytes := h.status_bytes
    fault_mark := by simp [h.fault_none (show s.seq ≠ .faulted by simp [hs])]
    fault_absent := h.fault_absent
    refusal_mark := by simp
    no_result := fun hr => by cases hr
    driver := fun _ => .inr (.inr rfl)
    operation := trivial
    locals_held := trivial }

/-- The peripheral's choice uses up what the invariant does not speak of. -/
theorem Inv.chosen {s : State} (h : Inv s) (ms : List PeripheralMove) (k : Nat) :
    Inv { s with script := ms, tick := k } := by
  cases h
  constructor <;> assumption

/-- The completion ends the command in flight and sets the flag (R125). -/
theorem Inv.complete {s : State} (h : Inv s) (st d : Byte) : Inv (complete st d s) :=
  { h with
    busy_awaits := fun hb => by cases hb
    await_flag := fun _ => rfl
    after_flag := fun _ => rfl
    pending_busy := rfl }

/-- Settles O50: a completion keeps the invariant by `Inv.complete`, a step of the sequencer by `Took.keeps_inv`. -/
theorem stepKeepsInv : Obligations.StepKeepsInv := by
  intro s t h hstep
  obtain ⟨ms, k, ⟨-, st, d, rfl⟩ | hseq⟩ := step_cases hstep
  · exact (h.chosen ms k).complete st d
  replace h := h.chosen ms k
  rcases sequencerStep_cases hseq with ⟨hs, -, rfl⟩ | ⟨c, rest, r, hs, -, -, rfl⟩ | ⟨c, rest, i, hs, -, hr, ht⟩ |
    ⟨op, l, -, hl, ht⟩
  · exact h.presented hs hs rfl rfl rfl
  · exact (h.presented (u := { s with script := ms, tick := k, calls := rest }) hs hs rfl rfl rfl).refuse hs r
  · exact ht.keeps_inv (labelsOf_of_request hr) (h.presented hs (by simpa using hs) (by simp; rfl) (by simp) (by simp))
  · exact ht.keeps_inv (List.ne_nil_of_mem hl) h

/-- Settles O49: nothing is written and no command is in flight at power-up. -/
theorem invAtReset : Obligations.InvAtReset :=
  inv_of_ready rfl ⟨rfl, fun _ hv => (by cases hv), fun _ hv => (by cases hv)⟩ rfl rfl rfl

end Sys2Proof.Machine
end

section
/-! SUPPORT. The statements about memory: the register accesses by address, the command bytes as control writes, the
peripheral's completion step, where a step's access goes, and the transfers label by label. -/

namespace Sys2Proof.Machine

/-! ## Register accesses by address -/

/-- An access outside the register map faults by its address (R42). -/
theorem access_elsewhere {a : Addr} (h : a ∉ [0x00B8#16, 0x00B9#16, 0x00BB#16, 0x00BC#16]) (v : Byte) (s : State) :
    memWrite a v s = .fault (.notInRegisterMap a) ∧ memRead a s = .error (.notInRegisterMap a) := by
  simp only [List.mem_cons, List.not_mem_nil, or_false, not_or] at h
  obtain ⟨h1, h2, h3, h4⟩ := h
  simp [memWrite, memRead, Config.twbrAddr, Config.twsrAddr, Config.twdrAddr, Config.twcrAddr, h1, h2, h3, h4]

/-- Everything a write can do when it answers a next state. -/
theorem memWrite_cases {a : Addr} {v : Byte} {s u : State} (h : memWrite a v s = .next u) :
    (a = Config.twbrAddr ∧ u = writeTwbr v s) ∨ (a = Config.twsrAddr ∧ u = writeTwsr v s) ∨
      (a = Config.twdrAddr ∧ u = writeTwdr v s) ∨ (a = Config.twcrAddr ∧ u = writeTwcr v s) := by
  unfold memWrite at h
  split at h
  · cases h; exact .inl ⟨‹_›, rfl⟩
  split at h
  · cases h; exact .inr (.inl ⟨‹_›, rfl⟩)
  split at h
  · cases h; exact .inr (.inr (.inl ⟨‹_›, rfl⟩))
  split at h
  · cases h; exact .inr (.inr (.inr ⟨‹_›, rfl⟩))
  · cases h

/-- Settles O7: the control write is `writeTwcr`, whose two cases are bit 7 of the byte. -/
theorem statusAndControlWrites : Obligations.StatusAndControlWrites := by
  intro v s
  refine ⟨memWrite_twsr v s, fun hv => ?_, fun hv => ?_⟩
  · exact (memWrite_twcr v s).trans (congrArg _ (writeTwcr_command hv s))
  · exact (memWrite_twcr v s).trans (congrArg _ (writeTwcr_plain hv s))

/-- Settles O8: the data write is `writeTwdr`, whose two cases are the flag. -/
theorem bitRateAndDataWrites : Obligations.BitRateAndDataWrites := by
  intro v s
  refine ⟨memWrite_twbr v s, fun hf => ?_, fun hf => ?_⟩
  · exact (memWrite_twdr v s).trans (congrArg _ (writeTwdr_ready hf v))
  · exact (memWrite_twdr v s).trans (congrArg _ (writeTwdr_lost hf v))

/-- Settles O9: a read answers the register's view, and bit 7 of the control view is the flag. -/
theorem registerReads : Obligations.RegisterReads := fun s =>
  ⟨memRead_twbr s, memRead_twsr s, memRead_twdr s, controlReadByte s, memRead_twcr s, controlReadByte_flag s⟩

/-- Settles O10: each of the three writes sets one field to the byte; the data write leaves the flag, so that the
second one sets it again. -/
theorem writesTwiceAsOnce : Obligations.WritesTwiceAsOnce := by
  rintro a v s t (rfl | rfl | ⟨rfl, hf⟩) hw
  · cases hw; rfl
  · cases hw; rfl
  · replace hw : .next (writeTwdr v s) = Host.Outcome.next t := hw
    rw [writeTwdr_ready hf] at hw
    cases hw
    exact congrArg _ (writeTwdr_ready (s := { s with twdr := v }) hf v)

/-! ## The command bytes -/

/-- Executing what a control byte decodes to is the write of that byte (R61, R74). -/
theorem exec_of_decodeCmd {v : Byte} {c : Instr} (h : decodeCmd v = .ok c) (s : State) :
    exec c s = .next (writeTwcr v s) := by
  unfold decodeCmd at h
  split at h
  case h_6 => cases h
  all_goals
    rename_i hv
    cases h
    rw [show v = BitVec.ofNat 8 v.toNat by simp, hv]
    rfl

/-- An instruction that is no operation of the sequencer writes its own byte; all but 0x04 are commands (R74). -/
theorem exec_of_no_labels {i : Instr} (h : labelsOf i = []) (s : State) :
    ∃ v, exec i s = .next (writeTwcr v s) ∧ (i = .cmdEnable → isCommand v = false) := by
  cases i with
  | cmdEnable => exact ⟨0x04#8, rfl, fun _ => by decide⟩
  | cmdStart => exact ⟨0xA4#8, rfl, fun hi => by cases hi⟩
  | cmdStop => exact ⟨0x94#8, rfl, fun hi => by cases hi⟩
  | cmdXfer => exact ⟨0x84#8, rfl, fun hi => by cases hi⟩
  | cmdXferAck => exact ⟨0xC4#8, rfl, fun hi => by cases hi⟩
  | _ => cases h

/-- The five fields a control write may change (R61). -/
theorem writeTwcr_frame (v : Byte) (s : State) :
    writeTwcr v s =
      { s with
        twcrWr := (writeTwcr v s).twcrWr, intFlag := (writeTwcr v s).intFlag, busy := (writeTwcr v s).busy,
        pending := (writeTwcr v s).pending, epoch := s.epoch + 1 } := by
  unfold writeTwcr
  split <;> rfl

/-- A command byte with bit 7 = 1 starts a command (R61). -/
theorem exec_of_command {v : Byte} {c : Instr} (h : decodeCmd v = .ok c) (hv : isCommand v = true) (s : State) :
    exec c s =
      .next
        { s with
          twcrWr := some v, intFlag := false, busy := true, pending := some (v, s.twdr), epoch := s.epoch + 1 } :=
  (exec_of_decodeCmd h s).trans (congrArg _ (writeTwcr_command hv s))

/-- Settles O26: each is the control write of its byte, and 0x04 alone has bit 7 = 0. -/
theorem commandBytes : Obligations.CommandBytes := fun s =>
  ⟨(exec_of_decodeCmd rfl s).trans (congrArg _ (writeTwcr_plain (by decide) s)), exec_of_command rfl (by decide) s,
    exec_of_command rfl (by decide) s, exec_of_command rfl (by decide) s, exec_of_command rfl (by decide) s⟩

/-! ## What a write leaves of the other addresses -/

/-- What a read answers is in the registers and `epoch` (R56, R57, R60, R62). -/
theorem memRead_of_registers {s t : State} (hr : registers t = registers s) (he : t.epoch = s.epoch) (a : Addr) :
    memRead a t = memRead a s :=
  memRead_congr (congrArg Registers.twbr hr) (congrArg Registers.twsrRd hr) (congrArg Registers.twdr hr)
    (congrArg Registers.intFlag hr) he

/-- A write leaves what every other address reads as (R55, R58, R59, R61). -/
theorem memRead_of_memWrite {a b : Addr} {v : Byte} {s u : State} (h : memWrite a v s = .next u) (hb : b ≠ a) :
    memRead b u = memRead b s := by
  rcases memWrite_cases h with ⟨rfl, rfl⟩ | ⟨rfl, rfl⟩ | ⟨rfl, rfl⟩ | ⟨rfl, rfl⟩ <;>
    simp [memRead, controlReadByte, hb]

/-- Settles O40: a command byte is a control write. -/
theorem frameOfCommandBytes : Obligations.FrameOfCommandBytes := by
  intro i s t hi hexec
  obtain ⟨v, hv, hplain⟩ := exec_of_no_labels hi s
  cases hv.symm.trans hexec
  refine ⟨writeTwcr_frame v s, fun he => ?_, fun a ha => memRead_of_memWrite (memWrite_twcr v s) ha⟩
  rw [writeTwcr_plain (hplain he)]
  exact ⟨rfl, rfl, rfl⟩

/-! ## The peripheral -/

/-- Where the outside has fixed no move, free values decide it (R125, R126). -/
theorem step_free {s : State} (hb : s.busy = true) (hs : s.script = []) :
    step s =
      if Config.completes s.tick then
        .next (complete (Config.statusDraw s.tick) (Config.dataDraw s.tick) { s with tick := s.tick + 1 })
      else sequencerStep { s with tick := s.tick + 1 } := by
  cases hc : Config.completes s.tick <;> simp [step, machineStep, peripheralChoice, hb, hs, hc]

/-- Settles O13: the peripheral idle, its move scripted, or its move drawn. -/
theorem completionStep : Obligations.CompletionStep := fun _ =>
  ⟨step_idle, fun _ _ _ => step_complete, fun _ => step_wait, step_free⟩

/-! ## Where a step's access goes -/

/-- The access of every label goes to one of the four registers (R43). -/
theorem accessAt_addr {s : State} {x : Access} (h : accessAt s = some x) :
    x.addr ∈ [0x00B8#16, 0x00B9#16, 0x00BB#16, 0x00BC#16] := by
  cases hs : s.seq with
  | run op l =>
    cases l with
    | i1 =>
      simp only [accessAt, hs] at h
      obtain ⟨d, -, rfl⟩ := Option.map_eq_some_iff.1 h
      simp [Access.addr]
    | t0 =>
      simp only [accessAt, hs] at h
      split at h
      · cases h
      · obtain ⟨b, -, rfl⟩ := Option.map_eq_some_iff.1 h
        simp [Access.addr]
    | v0 =>
      simp only [accessAt, hs] at h
      split at h <;> cases h
      simp [Access.addr]
    | f0 | x0 => simp [accessAt, hs] at h
    | _ =>
      simp only [accessAt, hs, Option.some.injEq] at h
      subst h
      simp [Access.addr]
  | _ => simp [accessAt, hs] at h

/-- The labels that write the control register; READ's only while a slot is left (R97 to R112). -/
theorem controlWrite_label {s : State} {op : Instr} {l : Label} {v : Byte} (hs : s.seq = .run op l)
    (hx : accessAt s = some (.write 0x00BC#16 v)) :
    l ∈ [.i2, .s0, .p0, .h1, .t1] ∨ l = .v0 ∧ s.locals.i ≠ s.locals.n := by
  cases l <;> simp [accessAt, hs] at hx ⊢
  exact hx.1

/-- Such a label's step goes on: it neither faults nor stops. -/
theorem controlWrite_next {s : State} {op : Instr} {l : Label} {v : Byte} (hs : s.seq = .run op l)
    (hl : l ∈ labelsOf op) (hx : accessAt s = some (.write 0x00BC#16 v)) : ∃ t, exec op s = .next t := by
  rcases controlWrite_label hs hx with hw | ⟨rfl, hi⟩
  · simp only [List.mem_cons, List.not_mem_nil, or_false] at hw
    rcases hw with rfl | rfl | rfl | rfl | rfl <;> cases op <;> simp [labelsOf] at hl
    all_goals exact ⟨_, turn_run hs _ _⟩
  · cases op <;> simp [labelsOf] at hl
    exact ⟨_, (turn_run hs _ _).trans (if_neg hi)⟩

/-- The counter of control writes goes on as the label's access does (log 4). -/
theorem Took.epoch_of_access {i : Instr} {s t u : State} (h : Took i s t) (hi : labelsOf i ≠ [])
    (hu : performAccess (accessAt s) s = .next u) : t.epoch = u.epoch := by
  cases h with
  | held hs _ hw =>
    simp only [List.mem_cons, List.not_mem_nil, or_false] at hw
    rcases hw with rfl | rfl | rfl | rfl | rfl | rfl <;> simp [accessAt, hs] at hu <;> rw [hu]
  | unknown hs _ hw =>
    simp only [List.mem_cons, List.not_mem_nil, or_false] at hw
    rcases hw with rfl | rfl | rfl | rfl <;> simp [accessAt, hs] at hu <;> simp [hu]
  | cmdEnable | cmdStart | cmdStop | cmdXfer | cmdXferAck => exact absurd rfl hi
  | _ =>
    simp [accessAt, *] at hu
    simp [← hu]

/-- A step of an operation leaves what every address reads as, but for the one its label writes (R43). -/
theorem Took.memRead_eq {i : Instr} {s t : State} {b : Addr} (h : Took i s t) (hi : labelsOf i ≠ [])
    (hb : ∀ a v, accessAt s = some (.write a v) → b ≠ a) : memRead b t = memRead b s := by
  obtain ⟨u, hu, hreg⟩ := h.performs_access hi
  rw [memRead_of_registers hreg (h.epoch_of_access hi hu)]
  match hx : accessAt s with
  | none => rw [hx] at hu; cases hu; rfl
  | some (.read _) => rw [hx] at hu; cases hu; rfl
  | some (.write a v) => rw [hx] at hu; exact memRead_of_memWrite hu (hb a v hx)

/-- Settles O38: the transfers are operations, and `Took.memRead_eq` is the frame of each. -/
theorem frameOfTransfers : Obligations.FrameOfTransfers := by
  intro i s t hi hexec b hb
  refine (exec_took hexec).memRead_eq ?_ hb
  rcases hi with ⟨a, d, rfl⟩ | rfl | ⟨e, rfl⟩ <;> simp [labelsOf]

/-- Settles O47: the label's step and the command byte make the same control write. -/
theorem stepRunsCommandByte : Obligations.StepRunsCommandByte := by
  intro s op l v c hs hl hb hx hc
  obtain ⟨u, hu⟩ := controlWrite_next hs hl hx
  have htook := exec_took hu
  have hwrite : performAccess (accessAt s) s = .next (writeTwcr v s) := by rw [hx]; rfl
  obtain ⟨w, hw, hreg⟩ := htook.performs_access (List.ne_nil_of_mem hl)
  cases hw.symm.trans hwrite
  exact ⟨writeTwcr v s, u, exec_of_decodeCmd hc s, by rw [step_idle hb, sequencerStep_run hs hl, hu], hreg,
    htook.epoch_of_access (List.ne_nil_of_mem hl) hwrite⟩

/-! ## The faults of `exec` -/

/-- `Faults i s f`: instruction `i` at `s` stops with the fault `f`. -/
inductive Faults : Instr → State → Fault → Prop where
  /-- After an unknown status there is no step (R120). -/
  | terminal {i : Instr} {s : State} (hs : s.seq = .faulted) : Faults i s (.terminal s.fault)
  /-- A label of another operation's row (R22). -/
  | noSuchLabel {i : Instr} {l : Label} {s : State} (hs : s.seq = .run i l) (hl : l ∉ labelsOf i) :
      Faults i s .noSuchLabel
  | sendT0 {s : State} (hs : s.seq = .run .send .t0) (hi : s.locals.i ≠ s.locals.n)
      (hb : s.data[s.locals.i]? = none) : Faults .send s (.outsideCallerMemory s.locals.i)
  | readV3 {e : Bool} {s : State} (hs : s.seq = .run (.read e) .v3) (hi : ¬ s.locals.i < s.buf.length) :
      Faults (.read e) s (.outsideCallerMemory s.locals.i)

/-- In Ready no instruction faults: every fault is of a label or of Faulted. -/
theorem Faults.not_ready {i : Instr} {s : State} {f : Fault} (h : Faults i s f) : s.seq ≠ .ready := by
  cases h <;> simp [*]

/-- A fault of `turn` is that of Faulted or of the running label's step, where considering the request has none. -/
theorem turn_faults {op : Instr} {s : State} {a : StepOutcome} {b : Label → StepOutcome} {f : Fault}
    (h : turn op s a b = .fault f) (ha : a ≠ .fault f)
    (hb : ∀ l, s.seq = .run op l → b l = .fault f → Faults op s f) : Faults op s f := by
  unfold turn at h
  split at h
  · exact absurd h ha
  · split at h
    · rename_i hs hop
      exact hb _ (hop ▸ hs) h
    · cases h
  · cases h; exact .terminal ‹_›
  · cases h

/-- A request is accepted or refused; neither is a fault (R122). -/
theorem accept_ne_fault (op : Instr) (l : Label) (setup : State → State) (s : State) (f : Fault) :
    accept op l setup s ≠ .fault f := by
  unfold accept
  split <;> simp

/-- A poll that finds the flag 0 is no fault (R89). -/
theorem awaitStep_ne_fault {k : State → StepOutcome} {s : State} {f : Fault} (hk : k s ≠ .fault f) :
    awaitStep k s ≠ .fault f := by
  unfold awaitStep
  split
  · exact hk
  · simp

/-- An unknown status is a next state, Faulted; the outcome `.fault` is only for the step after it (R120). -/
theorem checkStatus_ne_fault {k : BusStatus → State → StepOutcome} {s : State} {f : Fault}
    (hk : ∀ st u, k st u ≠ .fault f) : checkStatus k s ≠ .fault f := by
  cases hd : decodeStatus s.twsrRd with
  | none => rw [checkStatus_absent hd]; simp
  | some st => rw [checkStatus_named hd]; exact hk st _

section
variable {s : State} {f : Fault}

theorem execNew_faults (h : execNew s = .fault f) : Faults .new s f := by
  refine turn_faults h (by simp) fun l hs hl => ?_
  cases l with
  | f0 =>
    revert hl
    dsimp only
    split
    · simp
    · split <;> simp
  | _ => cases hl; exact .noSuchLabel hs (by decide)

theorem execInit_faults (h : execInit s = .fault f) : Faults .init s f := by
  refine turn_faults h (accept_ne_fault _ _ _ _ _) fun l hs hl => ?_
  cases l with
  | i0 | i2 => cases hl
  | i1 => cases hd : s.divisor <;> simp only [hd] at hl <;> cases hl
  | _ => cases hl; exact .noSuchLabel hs (by decide)

theorem execStart_faults (h : execStart s = .fault f) : Faults .start s f := by
  refine turn_faults h (accept_ne_fault _ _ _ _ _) fun l hs hl => ?_
  cases l with
  | s0 => cases hl
  | s1 => exact absurd hl (awaitStep_ne_fault (by simp))
  | s2 => exact absurd hl (checkStatus_ne_fault (by simp))
  | _ => cases hl; exact .noSuchLabel hs (by decide)

theorem execStop_faults (h : execStop s = .fault f) : Faults .stop s f := by
  refine turn_faults h (accept_ne_fault _ _ _ _ _) fun l hs hl => ?_
  cases l with
  | p0 => cases hl
  | p1 => exact absurd hl (awaitStep_ne_fault (by simp))
  | _ => cases hl; exact .noSuchLabel hs (by decide)

theorem execSendHeader_faults {a : Byte} {dir : Direction} (h : execSendHeader a dir s = .fault f) :
    Faults (.sendHeader a dir) s f := by
  refine turn_faults h ?_ fun l hs hl => ?_
  · split
    · simp
    · split
      · simp
      · exact accept_ne_fault _ _ _ _ _
  cases l with
  | h0 | h1 => cases hl
  | h2 => exact absurd hl (awaitStep_ne_fault (by simp))
  | h3 => exact absurd hl (checkStatus_ne_fault (by simp))
  | _ => cases hl; exact .noSuchLabel hs (by simp [labelsOf])

theorem execSend_faults (h : execSend s = .fault f) : Faults .send s f := by
  refine turn_faults h (accept_ne_fault _ _ _ _ _) fun l hs hl => ?_
  cases l with
  | t0 =>
    simp only at hl
    split at hl
    · cases hl
    · split at hl
      · cases hl; exact .sendT0 hs ‹_› ‹_›
      · cases hl
  | t1 => cases hl
  | t2 => exact absurd hl (awaitStep_ne_fault (by simp))
  | t3 => exact absurd hl (checkStatus_ne_fault fun st u => by split <;> simp)
  | _ => cases hl; exact .noSuchLabel hs (by decide)

theorem execRead_faults {e : Bool} (h : execRead e s = .fault f) : Faults (.read e) s f := by
  refine turn_faults h (accept_ne_fault _ _ _ _ _) fun l hs hl => ?_
  cases l with
  | v0 =>
    simp only at hl
    split at hl <;> cases hl
  | v1 => exact absurd hl (awaitStep_ne_fault (by simp))
  | v2 => exact absurd hl (checkStatus_ne_fault fun st u => by split <;> simp)
  | v3 =>
    simp only [memRead_twdr] at hl
    split at hl
    · cases hl
    · cases hl; exact .readV3 hs ‹_›
  | _ => cases hl; exact .noSuchLabel hs (by simp [labelsOf])

theorem execDecode_faults {raw : Byte} (h : execDecode raw s = .fault f) : Faults (.decode raw) s f := by
  refine turn_faults h (accept_ne_fault _ _ _ _ _) fun l hs hl => ?_
  cases l with
  | x0 => cases hl
  | _ => cases hl; exact .noSuchLabel hs (by simp [labelsOf])

theorem execAwait_faults (h : execAwait s = .fault f) : Faults .await s f := by
  refine turn_faults h (accept_ne_fault _ _ _ _ _) fun l hs hl => ?_
  cases l with
  | a0 => exact absurd hl (awaitStep_ne_fault (by simp))
  | _ => cases hl; exact .noSuchLabel hs (by decide)

/-- Everything `exec` can fault with. -/
theorem exec_faults {i : Instr} (h : exec i s = .fault f) : Faults i s f := by
  cases i with
  | new => exact execNew_faults h
  | init => exact execInit_faults h
  | start => exact execStart_faults h
  | stop => exact execStop_faults h
  | sendHeader a dir => exact execSendHeader_faults h
  | send => exact execSend_faults h
  | read e => exact execRead_faults h
  | decode raw => exact execDecode_faults h
  | await => exact execAwait_faults h
  | cmdEnable | cmdStart | cmdStop | cmdXfer | cmdXferAck => cases h

/-- A step of the sequencer faults as an instruction does; considering a request never faults. -/
theorem sequencerStep_faults (h : sequencerStep s = .fault f) : ∃ i, Faults i s f := by
  unfold sequencerStep at h
  split at h
  · rename_i hs
    split at h
    · cases h
    · unfold takeCall at h
      split at h
      · cases h
      · exact absurd (by simpa using hs) (exec_faults h).not_ready
  · split at h
    · exact ⟨_, exec_faults h⟩
    · rename_i hs hl
      cases h
      exact ⟨_, .noSuchLabel hs (by simpa using hl)⟩
  · cases h; exact ⟨.new, .terminal ‹_›⟩
  · cases h

/-- A step that faults is the sequencer's: the peripheral's completion always answers a next state. -/
theorem step_fault (h : step s = .fault f) :
    ∃ ms k, sequencerStep { s with script := ms, tick := k } = .fault f := by
  obtain ⟨ms, k, hchoice⟩ := peripheralChoice_snd s
  refine ⟨ms, k, ?_⟩
  rw [← hchoice]
  unfold step machineStep at h
  split at h
  · cases h
  · rename_i hwait
    rw [hwait]
    exact h
end

/-- Settles O11: no fault of `Faults` is that of an access outside the map. -/
theorem onlyFourAddresses : Obligations.OnlyFourAddresses := by
  refine ⟨fun a v s ha => access_elsewhere ha v s, fun s a hstep => ?_, fun s x hx => accessAt_addr hx⟩
  obtain ⟨ms, k, hseq⟩ := step_fault hstep
  obtain ⟨i, hfault⟩ := sequencerStep_faults hseq
  cases hfault

/-! ## The transfers, label by label -/

/-- SEND_HEADER of a 7-bit address is accepted (R107). -/
theorem execSendHeader_enter {a d : Byte} {s : State} (hs : s.seq = .ready) (hd : s.divisor = some d)
    (ha : a ≤ 0x7F#8) (dir : Direction) :
    execSendHeader a dir s = .next (headerSetup a dir (enter (.sendHeader a dir) .h0 s)) := by
  refine (turn_ready hs _ _ _).trans ?_
  simp only [hd, if_neg (BitVec.not_lt.2 ha)]
  exact accept_some hd _ _ _

/-- Settles O21, a clause per label from the equations of `turn` and of the shared steps. -/
theorem sendHeaderSteps : Obligations.SendHeaderSteps := by
  intro a dir s
  refine ⟨fun d hd hs ha => ?_, fun hs hf => ?_, fun hs hf => ?_, fun hs => ?_, fun hs hf => ?_, fun st hs hst => ?_⟩
  · refine (execSendHeader_enter hs hd ha dir).trans ?_
    cases dir <;> simp [headerSetup, enter, setPhase, headerPayload, directionBit, headerExpected]
  · exact (turn_run hs _ _).trans (congrArg (fun u => Host.Outcome.next (goto _ _ u)) (writeTwdr_ready hf _))
  · exact (turn_run hs _ _).trans (congrArg (fun u => Host.Outcome.next (goto _ _ u)) (writeTwdr_lost hf _))
  · exact turn_run hs _ _
  · exact (turn_run hs _ _).trans (awaitStep_done hf _)
  · refine ((turn_run hs _ _).trans (checkStatus_named hst _)).trans ?_
    simp [finish, noteStatus, resultOf, hst]

/-- The turn of SEND at `T0` with a byte left (R110). -/
theorem execSend_byte {s : State} {b : Byte} (hs : s.seq = .run .send .t0) (hi : s.locals.i ≠ s.locals.n)
    (hb : s.data[s.locals.i]? = some b) : execSend s = .next (goto .send .t1 (writeTwdr b s)) := by
  refine ((turn_run hs _ _).trans (if_neg hi)).trans ?_
  simp only [hb]
  rfl

/-- Settles O22, likewise; 0x28 alone goes on with the next byte. -/
theorem sendSteps : Obligations.SendSteps := by
  intro s
  refine ⟨fun d hd hs => ?_, fun hs hi => ?_, fun b hs hi hb hf => ?_, fun b hs hi hb hf => ?_, fun hs => ?_,
    fun hs hf => ?_, fun hs hst => ?_, fun st hs hst hne => ?_⟩
  · exact (turn_ready hs _ _ _).trans (accept_some hd _ _ _)
  · exact (turn_run hs _ _).trans (if_pos hi)
  · exact (execSend_byte hs hi hb).trans (congrArg (fun u => Host.Outcome.next (goto _ _ u)) (writeTwdr_ready hf _))
  · exact (execSend_byte hs hi hb).trans (congrArg (fun u => Host.Outcome.next (goto _ _ u)) (writeTwdr_lost hf _))
  · exact turn_run hs _ _
  · exact (turn_run hs _ _).trans (awaitStep_done hf _)
  · have hacked : decodeStatus 0x28#8 = some .dataSentAcked := rfl
    refine ((turn_run hs _ _).trans (checkStatus_named (hst ▸ hacked) _)).trans ((if_pos rfl).trans ?_)
    simp [goto, advanceIndex, noteStatus, hacked, hst]
  · refine ((turn_run hs _ _).trans (checkStatus_named hst _)).trans ((if_neg hne).trans ?_)
    simp [finish, noteStatus, hst]

end Sys2Proof.Machine
end

section
/-! SUPPORT. The statements about the encodings: the fields of a request word and of the header byte, an equation of the
decoder per selector, the status table, and the refusals of the step that considers a request. -/

namespace Sys2Proof.Machine

/-! ## The fields of a request word -/

@[simp] theorem reqOp_reqWord (op : BitVec 4) (b : Byte) : reqOp (reqWord op b) = op :=
  BitVec.extractLsb'_append_eq_left

@[simp] theorem reqZ_reqWord (op : BitVec 4) (b : Byte) : reqZ (reqWord op b) = 0#4 := by
  rw [reqZ, reqWord, BitVec.extractLsb'_append_eq_of_add_le (by decide)]
  exact BitVec.extractLsb'_append_eq_left

@[simp] theorem reqOpnd_reqWord (op : BitVec 4) (b : Byte) : reqOpnd (reqWord op b) = b := by
  rw [reqOpnd, reqWord, BitVec.extractLsb'_append_eq_of_add_le (by decide)]
  exact BitVec.extractLsb'_append_eq_right

/-- With `z` = 0 a word is its selector and operand (R68). -/
theorem reqWord_of_fields {w : ReqWord} (hz : reqZ w = 0#4) : reqWord (reqOp w) (reqOpnd w) = w := by
  rw [reqWord, ← hz, reqOp, reqZ, reqOpnd,
    BitVec.extractLsb'_append_extractLsb'_eq_extractLsb' (start₁ := 0) (len₁ := 8) rfl,
    BitVec.extractLsb'_append_extractLsb'_eq_extractLsb' (start₁ := 0) (len₁ := 12) rfl]
  exact BitVec.extractLsb'_eq_self

/-- The selectors of the requests without operand (R69). -/
def bareSelectors : List (BitVec 4) := [0#4, 1#4, 2#4, 3#4, 5#4, 8#4]

/-- The selectors: without operand, SEND_HEADER's, READ's, DECODE's, and the reserved ones (R69). -/
theorem selector_cases (op : BitVec 4) : op ∈ bareSelectors ∨ op = 4#4 ∨ op = 6#4 ∨ op = 7#4 ∨ 9#4 ≤ op := by
  revert op
  decide

/-- A reserved selector is neither READ's nor one without operand. -/
theorem reservedSelector_ne {op : BitVec 4} (h : 9#4 ≤ op) : op ≠ 6#4 ∧ op ∉ bareSelectors := by
  revert op
  decide

/-- A selector without operand is neither READ's nor a reserved one. -/
theorem bareSelector_ne {op : BitVec 4} (h : op ∈ bareSelectors) : op ≠ 6#4 ∧ ¬ 9#4 ≤ op := by
  revert op
  decide

/-! ## The operand byte: seven bits over one -/

/-- A byte is its bits 7:1 over its bit 0. -/
theorem byte_of_fields (b : Byte) : b.extractLsb' 1 7 ++ BitVec.ofBool (b.getLsbD 0) = b := by
  have hbit : BitVec.ofBool (b.getLsbD 0) = b.extractLsb' 0 1 := by
    ext i hi
    simp [Nat.lt_one_iff.1 hi]
  rw [hbit]
  exact BitVec.extractLsb'_append_extractLsb'

/-- The payload is the low seven address bits over the direction bit (R76). -/
theorem headerPayload_eq_append (a : Byte) (d : Direction) :
    headerPayload a d = a.setWidth 7 ++ BitVec.ofBool (directionBit d) := by
  have hbit : (if directionBit d then 0x01#8 else 0x00#8) = 0#7 ++ BitVec.ofBool (directionBit d) := by
    cases d <;> rfl
  have hshift : a <<< 1 = a.setWidth 7 ++ 0#1 := by
    rw [BitVec.setWidth_eq_extractLsb' (by decide)]
    exact BitVec.shiftLeft_eq_concat_of_lt (by decide)
  rw [headerPayload, hbit, hshift, BitVec.or_append, BitVec.or_zero, BitVec.zero_or]

/-- A 7-bit address is read back from bits 7:1. -/
theorem headerPayload_address {a : Byte} (ha : a ≤ 0x7F#8) (d : Direction) :
    ((headerPayload a d).extractLsb' 1 7).setWidth 8 = a := by
  rw [headerPayload_eq_append, BitVec.extractLsb'_append_eq_left]
  exact BitVec.setWidth_setWidth_eq_self (Nat.lt_succ_of_le ha)

/-- The direction is read back from bit 0. -/
theorem headerPayload_direction (a : Byte) (d : Direction) : (headerPayload a d).getLsbD 0 = directionBit d := by
  rw [headerPayload_eq_append, BitVec.getLsbD_append]
  simp

theorem directionBit_directionOfBit (b : Bool) : directionBit (directionOfBit b) = b := by cases b <;> rfl
theorem directionOfBit_directionBit (d : Direction) : directionOfBit (directionBit d) = d := by cases d <;> rfl

/-- The payload of what SEND_HEADER's operand decodes to is that operand. -/
theorem headerPayload_of_fields (b : Byte) :
    headerPayload ((b.extractLsb' 1 7).setWidth 8) (directionOfBit (b.getLsbD 0)) = b := by
  rw [headerPayload_eq_append, directionBit_directionOfBit, BitVec.setWidth_setWidth_of_le _ (by decide),
    BitVec.setWidth_eq, byte_of_fields]

/-- The address SEND_HEADER's operand decodes to has seven bits (R109). -/
theorem decodedAddress_le (b : Byte) : (b.extractLsb' 1 7).setWidth 8 ≤ 0x7F#8 := by
  bv_omega

/-- READ's operand is its flag in bit 0 (R68). -/
theorem readOperand_of_fields {b : Byte} (hb : b.extractLsb' 1 7 = 0#7) :
    (if b.getLsbD 0 then 0x01#8 else 0x00#8) = b := by
  conv_rhs => rw [← byte_of_fields b, hb]
  cases b.getLsbD 0 <;> rfl

/-! ## The decoder of requests, selector by selector (R69, R70) -/

/-- An operation without operand is decoded from the operand 0 alone (R70). -/
theorem noOperand_ok_iff {i j : Instr} {b : Byte} : noOperand i b = .ok j ↔ b = 0x00#8 ∧ i = j := by
  unfold noOperand
  split <;> simp [*]

theorem noOperand_error_iff {i : Instr} {b : Byte} {r : Reason} :
    noOperand i b = .error r ↔ b ≠ 0x00#8 ∧ r = .reservedBits := by
  unfold noOperand
  split <;> simp [*, eq_comm]

/-- Each selector without operand stands for one instruction, encoded with the operand 0 (R69, R70). -/
theorem decodeReq_bare {op : BitVec 4} (h : op ∈ bareSelectors) :
    ∃ i : Instr, encode i = .req (reqWord op 0x00#8) ∧ i.wellFormed = true ∧
      ∀ b, decodeReq (reqWord op b) = noOperand i b := by
  simp only [bareSelectors, List.mem_cons, List.not_mem_nil, or_false] at h
  rcases h with rfl | rfl | rfl | rfl | rfl | rfl
  · exact ⟨.new, rfl, rfl, fun b => by simp [decodeReq]⟩
  · exact ⟨.init, rfl, rfl, fun b => by simp [decodeReq]⟩
  · exact ⟨.start, rfl, rfl, fun b => by simp [decodeReq]⟩
  · exact ⟨.stop, rfl, rfl, fun b => by simp [decodeReq]⟩
  · exact ⟨.send, rfl, rfl, fun b => by simp [decodeReq]⟩
  · exact ⟨.await, rfl, rfl, fun b => by simp [decodeReq]⟩

theorem decodeReq_sendHeader (b : Byte) :
    decodeReq (reqWord 4#4 b) =
      .ok (.sendHeader ((b.extractLsb' 1 7).setWidth 8) (directionOfBit (b.getLsbD 0))) := by
  simp [decodeReq]

theorem decodeReq_read (b : Byte) :
    decodeReq (reqWord 6#4 b) =
      if b.extractLsb' 1 7 ≠ 0#7 then .error .reservedBits else .ok (.read (b.getLsbD 0)) := by
  simp [decodeReq]

theorem decodeReq_decode (b : Byte) : decodeReq (reqWord 7#4 b) = .ok (.decode b) := by
  simp [decodeReq]

theorem decodeReq_reservedOpcode {op : BitVec 4} (h : 9#4 ≤ op) (b : Byte) :
    decodeReq (reqWord op b) = .error .reservedOpcode := by
  have hop : 9 ≤ op.toNat := h
  simp only [decodeReq, reqZ_reqWord, reqOp_reqWord, ne_eq, not_true_eq_false, if_false]
  split
  case h_10 => rfl
  all_goals omega

theorem decodeReq_reservedBits {w : ReqWord} (h : reqZ w ≠ 0#4) : decodeReq w = .error .reservedBits := if_pos h

/-- Every refusal of R70, with its reason: the reserved bits, of which `z` comes first, and the reserved selectors. -/
theorem decodeReq_error_iff {w : ReqWord} {r : Reason} :
    decodeReq w = .error r ↔
      (r = .reservedBits ∧
        (reqZ w ≠ 0#4 ∨ (reqOp w = 6#4 ∧ (reqOpnd w).extractLsb' 1 7 ≠ 0#7) ∨
          (reqOp w ∈ bareSelectors ∧ reqOpnd w ≠ 0x00#8))) ∨
      (r = .reservedOpcode ∧ reqZ w = 0#4 ∧ 9#4 ≤ reqOp w) := by
  by_cases hz : reqZ w = 0#4
  · rw [← reqWord_of_fields hz]
    generalize reqOp w = op, reqOpnd w = b
    simp only [reqZ_reqWord, reqOp_reqWord, reqOpnd_reqWord]
    obtain hop | rfl | rfl | rfl | hop := selector_cases op
    · obtain ⟨i, -, -, hdec⟩ := decodeReq_bare hop
      simp [hdec, noOperand_error_iff, bareSelector_ne hop, hop, and_comm]
    · simp [decodeReq_sendHeader, bareSelectors]
    · rw [decodeReq_read]
      split
      · simp [*, eq_comm (b := r)]
      · simp_all [bareSelectors]
    · simp [decodeReq_decode, bareSelectors]
    · simp [decodeReq_reservedOpcode hop, reservedSelector_ne hop, hop, eq_comm (b := r)]
  · simp [decodeReq_reservedBits hz, hz, eq_comm (b := r)]

/-- A request that decodes is well-formed, and its encoding is the word it was decoded from. -/
theorem encode_of_decodeReq {w : ReqWord} {i : Instr} (h : decodeReq w = .ok i) :
    encode i = .req w ∧ i.wellFormed = true := by
  by_cases hz : reqZ w = 0#4
  · rw [← reqWord_of_fields hz] at h ⊢
    generalize reqOp w = op, reqOpnd w = b at h ⊢
    obtain hop | rfl | rfl | rfl | hop := selector_cases op
    · obtain ⟨j, henc, hwf, hdec⟩ := decodeReq_bare hop
      rw [hdec, noOperand_ok_iff] at h
      obtain ⟨rfl, rfl⟩ := h
      exact ⟨henc, hwf⟩
    · rw [decodeReq_sendHeader] at h
      cases h
      exact ⟨congrArg (fun b => Code.req (reqWord 4#4 b)) (headerPayload_of_fields b),
        decide_eq_true (decodedAddress_le b)⟩
    · rw [decodeReq_read] at h
      split at h
      · cases h
      · rename_i hb
        cases h
        exact ⟨congrArg (fun b => Code.req (reqWord 6#4 b)) (readOperand_of_fields (not_not.1 hb)), rfl⟩
    · rw [decodeReq_decode] at h
      cases h
      exact ⟨rfl, rfl⟩
    · rw [decodeReq_reservedOpcode hop] at h
      cases h
  · rw [decodeReq_reservedBits hz] at h
    cases h

/-- A command byte that decodes is the encoding of its instruction (R74). -/
theorem encode_of_decodeCmd {b : Byte} {i : Instr} (h : decodeCmd b = .ok i) :
    encode i = .cmd b ∧ i.wellFormed = true := by
  unfold decodeCmd at h
  split at h
  case h_6 => cases h
  all_goals
    rename_i hb
    cases h
    exact ⟨congrArg Code.cmd (BitVec.eq_of_toNat_eq hb.symm), rfl⟩

/-! ## Decoder and encoder agree -/

/-- Settles O2: an instruction with an operand is read back by its selector's equation, the others by evaluation. -/
theorem decodeOfEncode : Obligations.DecodeOfEncode := by
  intro i hwf
  cases i with
  | sendHeader a d =>
    have hdec := decodeReq_sendHeader (headerPayload a d)
    rw [headerPayload_address (of_decide_eq_true hwf), headerPayload_direction, directionOfBit_directionBit] at hdec
    simp only [encode, decodeCode, hdec]
  | read e => cases e <;> rfl
  | decode raw => simp only [encode, decodeCode, decodeReq_decode]
  | _ => rfl

/-- Settles O3, format by format. -/
theorem encodeOfDecode : Obligations.EncodeOfDecode := by
  intro c i h
  cases c with
  | req w =>
    simp only [decodeCode] at h
    split at h
    · cases h
      exact encode_of_decodeReq ‹_›
    · cases h
  | cmd b => exact encode_of_decodeCmd h

/-- Settles O4: the two reasons of `decodeReq_error_iff`, read at the word's own bits. -/
theorem requestWordsRefused : Obligations.RequestWordsRefused := by
  intro w
  have hread : (reqOpnd w).extractLsb' 1 7 = w.extractLsb' 1 7 := BitVec.extractLsb'_extractLsb'_of_le (by decide)
  refine ⟨?_, ?_, fun r hr => ?_⟩
  · rw [decodeReq_error_iff, hread]
    simp [reqZ, reqOp, reqOpnd, bareSelectors]
  · rw [decodeReq_error_iff]
    simp [reqZ, reqOp]
  · obtain ⟨rfl, -⟩ | ⟨rfl, -⟩ := decodeReq_error_iff.1 hr
    · exact .inl rfl
    · exact .inr rfl

/-- Settles O1: each word is decoded by evaluation. -/
theorem wordsDecodeAsListed : Obligations.WordsDecodeAsListed := by
  unfold Obligations.WordsDecodeAsListed
  decide

/-! ## The status table (R77) -/

/-- A byte decodes to a status exactly when it is that status's byte. -/
theorem decodeStatus_eq_some_iff {raw : Byte} {st : BusStatus} :
    decodeStatus raw = some st ↔ raw = encodeStatus st := by
  constructor
  · intro h
    unfold decodeStatus at h
    split at h
    case h_14 => cases h
    all_goals
      rename_i hraw
      cases h
      exact BitVec.eq_of_toNat_eq hraw
  · rintro rfl
    cases st <;> rfl

/-- A byte that is no status's byte is absent. -/
theorem decodeStatus_eq_none {raw : Byte} (h : ∀ st, raw ≠ encodeStatus st) : decodeStatus raw = none :=
  Option.eq_none_iff_forall_ne_some.2 fun st hst => h st (decodeStatus_eq_some_iff.1 hst)

/-- Settles O5: the table is `encodeStatus`, whose thirteen bytes are listed and have bits 2:0 clear. -/
theorem statusTable : Obligations.StatusTable := by
  refine ⟨rfl, rfl, rfl, rfl, rfl, rfl, rfl, rfl, rfl, rfl, rfl, rfl, rfl, fun raw hraw => ?_, fun a b st ha hb => ?_,
    fun st => ⟨encodeStatus st, decodeStatus_eq_some_iff.2 rfl⟩, fun raw hraw => ?_⟩
  · refine decodeStatus_eq_none ?_
    rintro st rfl
    cases st <;> simp [encodeStatus] at hraw
  · rw [decodeStatus_eq_some_iff.1 ha, decodeStatus_eq_some_iff.1 hb]
  · refine decodeStatus_eq_none ?_
    rintro st rfl
    cases st <;> exact hraw rfl

/-! ## Refusals of the considering step -/

/-- An address of 0x80 or more is refused when the request is considered (R109; log 10). -/
theorem execSendHeader_wide {a d : Byte} {s : State} (ha : 0x80#8 ≤ a) (hs : s.seq = .ready) (hd : s.divisor = some d)
    (dir : Direction) : execSendHeader a dir s = .next (refuse .addressTooWide s) := by
  refine (turn_ready hs _ _ _).trans ?_
  simp only [hd]
  exact if_pos ha

/-- Settles O6: the fields of the payload, and the refusal of a wide address. -/
theorem headerByte : Obligations.HeaderByte := by
  refine ⟨fun a d ha => ⟨headerPayload_address ha d, ?_⟩, rfl, rfl,
    fun a d s v ha hs hd => execSendHeader_wide ha hs hd d⟩
  rw [headerPayload_direction]
  cases d <;> simp [directionBit]

/-- A refused encoding consumes its call and sets the mark (R81, R123). -/
theorem sequencerStep_refused {s : State} {c : Call} {rest : List Call} {r : Reason} (hs : s.seq = .ready)
    (hu : upcoming s = c :: rest) (hr : c.request = .error r) :
    sequencerStep s = .next (refuse r { s with calls := rest }) := by
  simp [sequencerStep, hs, hu, takeCall, hr]

/-- Settles O29: the call's request is what the decoder refuses. -/
theorem reservedWordRefused : Obligations.ReservedWordRefused := by
  intro s c rest w r hs hb hu hf hd
  rw [step_idle hb]
  exact sequencerStep_refused hs hu (by simp only [Call.request, hf, hd])

end Sys2Proof.Machine
end

section
/-! SUPPORT. The expansions of the pseudo-instructions: runs, START from its request to its return, and what the caller
skips after an `Err`. -/

namespace Sys2Proof.Machine

/-! ## Runs -/

/-- A run's first step. -/
theorem run_step {s t : State} {k : Nat} (h : step s = .next t) : core.run (k + 1) s = core.run k t := by
  simp only [Host.Core.run, show core.step s = .next t from h]

/-- A run goes on where its first part ended. -/
theorem run_add {s t : State} {j : Nat} (h : core.run j s = .next t) (k : Nat) :
    core.run (j + k) s = core.run k t := by
  induction j generalizing s with
  | zero => cases h; rw [Nat.zero_add]
  | succ j ih =>
    rw [Nat.succ_add]
    simp only [Host.Core.run] at h ⊢
    split at h
    · exact ih h
    · cases h
    · cases h

/-- The step of a label of the running operation, with no command in flight (R23). -/
theorem step_label {s : State} {op : Instr} {l : Label} (hb : s.busy = false) (hs : s.seq = .run op l)
    (hl : l ∈ labelsOf op) : step s = exec op s :=
  (step_idle hb).trans (sequencerStep_run hs hl)

/-- In Ready with no call left the block stays for ever (R21). -/
theorem run_no_calls {s : State} (hs : s.seq = .ready) (hb : s.busy = false) (hc : s.calls = []) (k : Nat) :
    core.run k s = .next s := by
  have hstep : step s = .next s := by
    rw [step_idle hb, sequencerStep_none hs (upcoming_nil hc), drop_no_calls hc]
  induction k with
  | zero => rfl
  | succ k ih => rw [run_step hstep, ih]

/-- In Ready with no call to issue the unissued ones are dropped, and nothing else ever changes (R84). -/
theorem run_none_upcoming {s : State} (hs : s.seq = .ready) (hb : s.busy = false) (hu : upcoming s = []) (k : Nat) :
    core.run (k + 1) s = .next { s with calls := [] } := by
  rw [run_step ((step_idle hb).trans (sequencerStep_none hs hu))]
  exact run_no_calls (s := { s with calls := [] }) hs hb rfl k

/-! ## START from its request to its return -/

/-- The state START leaves when the peripheral answers its command with the bytes `st` and `d`, `st` naming `v`. -/
def startReturned (rest : List Call) (ms : List PeripheralMove) (st d : Byte) (v : BusStatus) (s : State) : State :=
  { s with
    calls := rest, script := ms, seq := .ready, ret := some (resultOf .startTransmitted v), phase := .startPending,
    twcrWr := some 0xA4#8, twsrRd := st, twdr := d, intFlag := true, busy := false, pending := none,
    locals := { s.locals with raw := st, status := some v }, epoch := s.epoch + 2 }

/-- START at S0 writes its command (R100). -/
theorem step_start_s0 {s : State} (hb : s.busy = false) (hs : s.seq = .run .start .s0) :
    step s = .next (goto .start .s1 (writeTwcr 0xA4#8 s)) :=
  (step_label hb hs (by decide)).trans (turn_run hs _ _)

/-- START at S1 goes on once the flag is 1 (R88). -/
theorem step_start_s1 {s : State} (hb : s.busy = false) (hs : s.seq = .run .start .s1) (hf : s.intFlag = true) :
    step s = .next (goto .start .s2 s) :=
  (step_label hb hs (by decide)).trans ((turn_run hs _ _).trans (awaitStep_done hf _))

/-- START at S2 returns by the status it reads (R100, R101). -/
theorem step_start_s2 {s : State} {v : BusStatus} (hb : s.busy = false) (hs : s.seq = .run .start .s2)
    (hst : decodeStatus s.twsrRd = some v) :
    step s = .next (finish (some (resultOf .startTransmitted v)) (noteStatus s.twsrRd s)) :=
  (step_label hb hs (by decide)).trans ((turn_run hs _ _).trans (checkStatus_named hst _))

/-- START from its request to its return (R100): considered, its command written, completed, the flag polled, and the
status checked. -/
theorem run_start {s : State} {dv st d : Byte} {v : BusStatus} {c : Call} {rest : List Call}
    {ms : List PeripheralMove} (hs : s.seq = .ready) (hb : s.busy = false) (hd : s.divisor = some dv)
    (hu : upcoming s = c :: rest) (hc : c.request = .ok .start) (hm : s.script = .complete st d :: ms)
    (hst : decodeStatus st = some v) : core.run 5 s = .next (startReturned rest ms st d v s) := by
  have haccept : exec .start { s with calls := rest } = .next (setPhase .startPending (enter .start .s0 _)) :=
    (turn_ready hs _ _ _).trans (accept_some (s := { s with calls := rest }) hd _ _ _)
  calc core.run 5 s
    _ = core.run 4 (setPhase .startPending (enter .start .s0 { s with calls := rest })) :=
      run_step ((step_idle hb).trans ((sequencerStep_call hs hu hc).trans haccept))
    _ = core.run 3 (goto .start .s1 (writeTwcr 0xA4#8 _)) := run_step (step_start_s0 hb rfl)
    _ = core.run 2 (complete st d { goto .start .s1 (writeTwcr 0xA4#8 _) with script := ms }) :=
      run_step (step_complete rfl hm)
    _ = core.run 1 (goto .start .s2 _) := run_step (step_start_s1 rfl rfl rfl)
    _ = core.run 0 (finish (some (resultOf .startTransmitted v)) (noteStatus st _)) :=
      run_step (step_start_s2 rfl rfl hst)
    _ = .next (startReturned rest ms st d v s) := by
      rw [noteStatus, hst]
      rfl

/-! ## The expansions of the pseudo-instructions (R84) -/

/-- The first request of a list is issued whatever came before, each later one only after no `Err`. -/
def StopsAtErr (cs : List Call) : Prop :=
  ∃ c later, cs = c :: later ∧ c.onlyAfterOk = false ∧ ∀ d ∈ later, d.onlyAfterOk = true

theorem stopsAtErr_stopping {first : Call} (h : first.onlyAfterOk = false) (later : List Call) :
    StopsAtErr (stopping (first :: later)) :=
  ⟨first, _, rfl, h, by simp⟩

theorem stopsAtErr_readAckAllButLast (slots : List Byte) : StopsAtErr (readAckAllButLast slots) := by
  unfold readAckAllButLast
  split
  · exact ⟨_, [], rfl, rfl, by simp⟩
  · exact stopsAtErr_stopping rfl _

/-- After an `Err` the requests of an expansion still to come are skipped, up to the caller's next own one. -/
theorem upcoming_skips {s : State} {v : BusStatus} {later rest : List Call} (hret : s.ret = some (.err v))
    (hcalls : s.calls = later ++ rest) (hlater : ∀ d ∈ later, d.onlyAfterOk = true)
    (hrest : ∀ c, rest.head? = some c → c.onlyAfterOk = false) : upcoming s = rest := by
  rw [upcoming_after_err hret, hcalls, List.dropWhile_append_of_pos hlater]
  cases rest with
  | nil => rfl
  | cons c rest => exact List.dropWhile_cons_of_neg (by simp [hrest c rfl])

/-- READ_ACK_ALL_BUT_LAST: all slots but the last with ack, the last without; the first READ is left out where it would
have no slot. -/
theorem readAckAllButLast_requests (front : List Byte) (last : Byte) :
    (readAckAllButLast (front ++ [last])).map (fun c => (c.request, c.buf)) =
      if front = [] then [(.ok (.read false), [last])]
      else [(.ok (.read true), front), (.ok (.read false), [last])] := by
  cases front with
  | nil => rfl
  | cons b front =>
    simp only [readAckAllButLast, List.dropLast_concat, List.drop_left]
    rfl

/-- Both transactions begin with START, and the rest is tagged. -/
theorem transaction_start {cs : List Call} {a : Byte} {bs : List Byte} (h : cs ∈ [writeTxn a bs, readTxnAck a bs]) :
    ∃ c later, cs = c :: later ∧ c.request = .ok .start ∧ ∀ d ∈ later, d.onlyAfterOk = true := by
  simp only [List.mem_cons, List.not_mem_nil, or_false] at h
  obtain rfl | rfl := h
  · exact ⟨_, _, rfl, rfl, by simp⟩
  · exact ⟨_, _, rfl, rfl, by simp⟩

/-- Both transactions go on with SEND_HEADER of the address as given (R109). -/
theorem transaction_header {cs : List Call} {a : Byte} {bs : List Byte} (h : cs ∈ [writeTxn a bs, readTxnAck a bs]) :
    ∃ c dir, cs.drop 1 = c :: cs.drop 2 ∧ c.request = .ok (.sendHeader a dir) := by
  simp only [List.mem_cons, List.not_mem_nil, or_false] at h
  obtain rfl | rfl := h
  · exact ⟨_, .write, rfl, rfl⟩
  · exact ⟨_, .read, rfl, rfl⟩

/-- A wide address is refused in the step that considers the SEND_HEADER, with the requests behind it unissued. -/
theorem step_transaction_wide {s : State} {dv a : Byte} {bs : List Byte} {cs rest : List Call} (hs : s.seq = .ready)
    (hb : s.busy = false) (hd : s.divisor = some dv) (hret : ∀ v, s.ret ≠ some (.err v))
    (hcs : cs ∈ [writeTxn a bs, readTxnAck a bs]) (ha : 0x80#8 ≤ a) (hcalls : s.calls = cs.drop 1 ++ rest) :
    step s = .next (refuse .addressTooWide { s with calls := cs.drop 2 ++ rest }) := by
  obtain ⟨c, dir, hdrop, hc⟩ := transaction_header hcs
  have hu : upcoming s = c :: (cs.drop 2 ++ rest) := by rw [upcoming_eq_calls hret, hcalls, hdrop, List.cons_append]
  exact (step_idle hb).trans ((sequencerStep_call hs hu hc).trans
    (execSendHeader_wide (s := { s with calls := cs.drop 2 ++ rest }) ha hs hd dir))

/-- Settles O60: the lists as R84 gives them, what is skipped after an `Err`, and START's `Err` with the rest of its
expansion unissued. -/
theorem expansionStopsAtErr : Obligations.ExpansionStopsAtErr := by
  refine ⟨fun a bs => ⟨rfl, rfl, rfl, rfl⟩, readAckAllButLast_requests, fun cs a bs hcs => ?_,
    fun s => upcoming_eq_calls, fun s v later rest => upcoming_skips,
    fun s dv a bs cs rest => step_transaction_wide, ?_⟩
  · simp only [List.mem_cons, List.not_mem_nil, or_false] at hcs
    obtain rfl | rfl | rfl := hcs
    · exact stopsAtErr_stopping rfl _
    · exact stopsAtErr_stopping rfl _
    · exact stopsAtErr_readAckAllButLast bs
  · intro s dv a st d bs v cs rest ms hs hb hd hcs hu hrest hm hst hv
    obtain ⟨c, later, rfl, hc, hlater⟩ := transaction_start hcs
    have hrun := run_start hs hb hd hu hc hm hst
    have hret : (startReturned (later ++ rest) ms st d v s).ret = some (.err v) := congrArg some (if_neg hv)
    have hup := upcoming_skips hret rfl hlater hrest
    refine ⟨_, hrun, rfl, hret, rfl, hup, ?_⟩
    rintro rfl k
    rw [show k + 6 = 5 + (k + 1) by omega, run_add hrun]
    exact run_none_upcoming rfl rfl hup k

end Sys2Proof.Machine
end

section
/-! SUPPORT. The statements about the status decoder and the await: DECODE, the held await and the hang, and the end of
every running operation under fairness. -/

namespace Sys2Proof.Machine

/-! ## DECODE and the frame of NEW, DECODE and AWAIT -/

/-- Settles O24: acceptance, the one label, and the count of the named bytes by evaluation. -/
theorem decodeSteps : Obligations.DecodeSteps := by
  refine ⟨fun raw s => ⟨fun d hd hs => ?_, fun hs => ?_⟩, by decide⟩
  · exact (turn_ready hs _ _ _).trans (accept_some hd _ _ _)
  · exact turn_run hs _ _

/-- NEW, DECODE and AWAIT have no label that reads the status, so that none of them raises the fault. -/
theorem frame_of_new_decode_await {i : Instr} {s t : State} (h : Took i s t)
    (hi : i = .new ∨ (∃ raw, i = .decode raw) ∨ i = .await) :
    registers t = registers s ∧ t.phase = s.phase ∧ t.fault = s.fault ∧ t.faultAt = s.faultAt ∧
      t.locals = s.locals ∧ t.epoch = s.epoch := by
  rcases hi with rfl | ⟨raw, rfl⟩ | rfl
  all_goals
    cases h with
    | unknown _ hl hw => cases List.mem_singleton.1 hl; simp at hw
    | _ => exact ⟨rfl, rfl, rfl, rfl, rfl, rfl⟩

/-- Settles O35: the registers and `epoch` fix what every address reads. -/
theorem frameOfNewDecodeAwait : Obligations.FrameOfNewDecodeAwait := by
  intro i s t hi hexec
  obtain ⟨hreg, hphase, hfault, hat, hlocals, hepoch⟩ := frame_of_new_decode_await (exec_took hexec) hi
  exact ⟨hreg, hphase, hfault, hat, hlocals, hepoch, memRead_of_registers hreg hepoch⟩

/-! ## The held await -/

/-- Each await label is of one operation's row (R22). -/
theorem await_label {op : Instr} {l : Label} (hl : l ∈ labelsOf op) (hw : l ∈ [.s1, .p1, .h2, .t2, .v1, .a0]) :
    (op = .start ∧ l = .s1) ∨ (op = .stop ∧ l = .p1) ∨ (∃ a d, op = .sendHeader a d ∧ l = .h2) ∨
      (op = .send ∧ l = .t2) ∨ (∃ e, op = .read e ∧ l = .v1) ∨ (op = .await ∧ l = .a0) := by
  simp only [List.mem_cons, List.not_mem_nil, or_false] at hw
  rcases hw with rfl | rfl | rfl | rfl | rfl | rfl <;> cases op <;> simp [labelsOf] at hl ⊢

/-- At its await with the flag 0 an operation stays, whatever it is (R89). -/
theorem sequencerStep_held {op : Instr} {l : Label} {s : State} (hs : s.seq = .run op l) (hl : l ∈ labelsOf op)
    (hw : l ∈ [.s1, .p1, .h2, .t2, .v1, .a0]) (hf : s.intFlag = false) : sequencerStep s = .next s := by
  rw [sequencerStep_run hs hl]
  rcases await_label hl hw with ⟨rfl, rfl⟩ | ⟨rfl, rfl⟩ | ⟨a, d, rfl, rfl⟩ | ⟨rfl, rfl⟩ | ⟨e, rfl, rfl⟩ | ⟨rfl, rfl⟩
  all_goals exact (turn_run hs _ _).trans (awaitStep_held hf _)

/-- Settles O31: all six awaits are one `awaitStep`. -/
theorem heldAtAwait : Obligations.HeldAtAwait := fun _ _ _ => sequencerStep_held

/-- Settles O32: idle, each step is the held poll; with a command in flight each scripted wait is used up by one. -/
theorem hangIsInfinite : Obligations.HangIsInfinite := by
  intro op l s hs hl hw hf
  refine ⟨fun hb k => ?_, fun k ms => ?_⟩
  · have hstep : step s = .next s := (step_idle hb).trans (sequencerStep_held hs hl hw hf)
    induction k with
    | zero => rfl
    | succ k ih => rw [run_step hstep, ih]
  · induction k generalizing s with
    | zero => rintro - rfl; rfl
    | succ k ih =>
      intro hb hm
      have hstep : step s = .next { s with script := List.replicate k .wait ++ ms } :=
        (step_wait hb hm).trans (sequencerStep_held hs hl hw hf)
      rw [run_step hstep]
      exact ih _ hs hf hb rfl

/-! ## The command in flight -/

/-- Every await but AWAIT's own is that of a command (R22, R74). -/
theorem await_command {op : Instr} {l : Label} (hl : l ∈ labelsOf op) (hw : l ∈ [.s1, .p1, .h2, .t2, .v1, .a0])
    (hop : op ≠ .await) : (Seq.run op l).awaitsCommand = true ∧ ∃ v, commandOf op = some v := by
  rcases await_label hl hw with ⟨rfl, rfl⟩ | ⟨rfl, rfl⟩ | ⟨a, d, rfl, rfl⟩ | ⟨rfl, rfl⟩ | ⟨e, rfl, rfl⟩ | ⟨rfl, -⟩
  case inr.inr.inr.inr.inr => exact absurd rfl hop
  all_goals exact ⟨rfl, _, rfl⟩

/-- A running operation stands at a label of its row (R22). -/
theorem Inv.label_of_run {s : State} {op : Instr} {l : Label} (h : Inv s) (hs : s.seq = .run op l) :
    l ∈ labelsOf op := by
  simpa [Seq.labelled, hs] using h.labelled

/-- A command is in flight only where its operation awaits it, with the flag 0 (R129). -/
theorem Inv.await_of_busy {s : State} (h : Inv s) (hb : s.busy = true) :
    ∃ op l, s.seq = .run op l ∧ l ∈ labelsOf op ∧ l ∈ [.s1, .p1, .h2, .t2, .v1, .a0] ∧ s.intFlag = false := by
  have hwait := h.busy_awaits hb
  have hf : s.intFlag = false := by simpa [hb] using h.await_flag hwait
  cases hs : s.seq with
  | run op l =>
    rw [hs] at hwait
    refine ⟨op, l, rfl, h.label_of_run hs, ?_, hf⟩
    cases l <;> simp [Seq.awaitsCommand] at hwait ⊢
  | _ => rw [hs] at hwait; cases hwait

/-- So the sequencer's step is the poll that is held (R129). -/
theorem sequencerStep_busy {s : State} (h : Inv s) (hb : s.busy = true) : sequencerStep s = .next s := by
  obtain ⟨op, l, hs, hl, hw, hf⟩ := h.await_of_busy hb
  exact sequencerStep_held hs hl hw hf

/-- Settles O33: a command in flight is awaited with the flag 0. -/
theorem pollWhileBusyChangesNothing : Obligations.PollWhileBusyChangesNothing := fun _ => sequencerStep_busy

/-- What is in flight is the running operation's own command (R35, R80). -/
theorem Inv.pending_command {s : State} {op : Instr} {l : Label} (h : Inv s) (hb : s.busy = true)
    (hs : s.seq = .run op l) : ∃ v, commandOf op = some v ∧ s.pending = some (v, s.twdr) := by
  obtain ⟨_, _, hs', hl, hw, -⟩ := h.await_of_busy hb
  cases hs.symm.trans hs'
  have hwait : (Seq.run op l).awaitsCommand = true := hs ▸ h.busy_awaits hb
  have htwcr : s.twcrWr = commandOf op := ((operationHeld_run hs).1 h.operation).2 hwait
  have hop : op ≠ .await := by
    rintro rfl
    cases List.mem_singleton.1 hl
    cases hwait
  obtain ⟨-, v, hv⟩ := await_command hl hw hop
  exact ⟨v, hv, by rw [h.pending_busy, hb, htwcr, hv]; rfl⟩

/-- With a command in flight a step is its completion, or a wait that leaves all but the peripheral's choice. -/
theorem step_busy {s : State} (h : Inv s) (hb : s.busy = true) :
    ∃ ms k, (∃ st d, step s = .next (complete st d { s with script := ms, tick := k })) ∨
      step s = .next { s with script := ms, tick := k } := by
  obtain ⟨ms, k, hchoice⟩ := peripheralChoice_snd s
  refine ⟨ms, k, ?_⟩
  unfold step machineStep
  generalize peripheralChoice s = p at hchoice
  obtain ⟨m, s'⟩ := p
  cases hchoice
  cases m with
  | complete st d => exact .inl ⟨st, d, rfl⟩
  | wait => exact .inr (sequencerStep_busy (h.chosen ms k) hb)

/-- Where a run comes to a state with no command in flight, the command of its first state has been completed. -/
theorem run_completes {s u : State} {j : Nat} (h : Inv s) (hb : s.busy = true) (hrun : core.run j s = .next u)
    (hu : u.busy = false) :
    ∃ k st d ms n, core.run k s = .next (complete st d { s with script := ms, tick := n }) := by
  induction j generalizing s with
  | zero => cases hrun; cases hb.symm.trans hu
  | succ j ih =>
    obtain ⟨ms, n, ⟨st, d, hstep⟩ | hstep⟩ := step_busy h hb
    · exact ⟨1, st, d, ms, n, run_step hstep⟩
    · rw [run_step hstep] at hrun
      obtain ⟨k, st, d, ms', n', hk⟩ := ih (h.chosen ms n) hb hrun
      exact ⟨k + 1, st, d, ms', n', (run_step hstep).trans hk⟩

/-! ## Every label's step answers -/

section
variable {s : State}

/-- A poll goes on or is held; neither stops (R89). -/
theorem awaitStep_answers {k : State → StepOutcome} (hk : ∃ t, k s = .next t) : ∃ t, awaitStep k s = .next t := by
  cases hf : s.intFlag with
  | true => rw [awaitStep_done hf]; exact hk
  | false => exact ⟨s, awaitStep_held hf k⟩

/-- An unknown status is a next state, Faulted (R120). -/
theorem checkStatus_answers {k : BusStatus → State → StepOutcome} (hk : ∀ st u, ∃ t, k st u = .next t) :
    ∃ t, checkStatus k s = .next t := by
  cases hd : decodeStatus s.twsrRd with
  | none => exact ⟨_, checkStatus_absent hd k⟩
  | some st => rw [checkStatus_named hd]; exact hk st _

theorem ite_answers {c : Prop} [Decidable c] (t u : State) :
    ∃ v, (if c then .next t else .next u : StepOutcome) = .next v := by
  split <;> exact ⟨_, rfl⟩

theorem turn_answers {op : Instr} {l : Label} (hs : s.seq = .run op l) {a : StepOutcome} {b : Label → StepOutcome}
    (hb : ∃ t, b l = .next t) : ∃ t, turn op s a b = .next t := by
  rw [turn_run hs]; exact hb

/-- A byte of `data` is left at `T0` until the index has come to its end (R110). -/
theorem Inv.send_byte (h : Inv s) (hs : s.seq = .run .send .t0) (hi : s.locals.i ≠ s.locals.n) :
    ∃ b, s.data[s.locals.i]? = some b := by
  obtain ⟨hn, hle⟩ := (localsHeld_send hs).1 h.locals_held
  have hlt : s.locals.i < s.data.length := hn ▸ Nat.lt_of_le_of_ne hle hi
  exact ⟨_, List.getElem?_eq_getElem hlt⟩

/-- At `V3` the index is of one of the caller's slots (R112). -/
theorem Inv.read_slot {e : Bool} (h : Inv s) (hs : s.seq = .run (.read e) .v3) : s.locals.i < s.buf.length := by
  obtain ⟨hn, -, -, hlt⟩ := (localsHeld_read hs).1 h.locals_held
  exact hn ▸ hlt

/-- Under the invariant a running operation's step answers a next state, but for a second NEW's. -/
theorem exec_answers {op : Instr} {l : Label} (h : Inv s) (hs : s.seq = .run op l)
    (hnew : op = .new → s.divisor = none) : ∃ t, exec op s = .next t := by
  have hl := h.label_of_run hs
  cases op with
  | new =>
    cases List.mem_singleton.1 hl
    refine turn_answers hs ?_
    simp only [hnew rfl]
    cases divisorOf s.freq <;> exact ⟨_, rfl⟩
  | init =>
    refine turn_answers hs ?_
    cases l with
    | i0 | i2 => exact ⟨_, rfl⟩
    | i1 => cases s.divisor <;> exact ⟨_, rfl⟩
    | _ => simp [labelsOf] at hl
  | start =>
    refine turn_answers hs ?_
    cases l with
    | s0 => exact ⟨_, rfl⟩
    | s1 => exact awaitStep_answers ⟨_, rfl⟩
    | s2 => exact checkStatus_answers fun _ _ => ⟨_, rfl⟩
    | _ => simp [labelsOf] at hl
  | stop =>
    refine turn_answers hs ?_
    cases l with
    | p0 => exact ⟨_, rfl⟩
    | p1 => exact awaitStep_answers ⟨_, rfl⟩
    | _ => simp [labelsOf] at hl
  | sendHeader a d =>
    refine turn_answers hs ?_
    cases l with
    | h0 | h1 => exact ⟨_, rfl⟩
    | h2 => exact awaitStep_answers ⟨_, rfl⟩
    | h3 => exact checkStatus_answers fun _ _ => ⟨_, rfl⟩
    | _ => simp [labelsOf] at hl
  | send =>
    cases l with
    | t0 =>
      by_cases hi : s.locals.i = s.locals.n
      · exact turn_answers hs ⟨_, if_pos hi⟩
      · obtain ⟨b, hb⟩ := h.send_byte hs hi
        exact ⟨_, execSend_byte hs hi hb⟩
    | t1 => exact turn_answers hs ⟨_, rfl⟩
    | t2 => exact turn_answers hs (awaitStep_answers ⟨_, rfl⟩)
    | t3 => exact turn_answers hs (checkStatus_answers fun _ _ => ite_answers _ _)
    | _ => simp [labelsOf] at hl
  | read e =>
    refine turn_answers hs ?_
    cases l with
    | v0 => exact ite_answers _ _
    | v1 => exact awaitStep_answers ⟨_, rfl⟩
    | v2 => exact checkStatus_answers fun _ _ => ite_answers _ _
    | v3 => exact ⟨_, if_pos (h.read_slot hs)⟩
    | _ => simp [labelsOf] at hl
  | decode raw =>
    cases List.mem_singleton.1 hl
    exact turn_answers hs ⟨_, rfl⟩
  | await =>
    cases List.mem_singleton.1 hl
    exact turn_answers hs (awaitStep_answers ⟨_, rfl⟩)
  | cmdEnable | cmdStart | cmdStop | cmdXfer | cmdXferAck => cases hl
end

/-! ## Every label's step brings the operation nearer to its end -/

/-- The labels from `l` to the end of its operation's row (R22). -/
def labelsLeft : Label → Nat
  | .f0 | .i2 | .s2 | .p1 | .h3 | .t3 | .v3 | .x0 | .a0 => 1
  | .i1 | .s1 | .p0 | .h2 | .t2 | .v2 => 2
  | .i0 | .s0 | .h1 | .t1 | .v1 => 3
  | .h0 | .t0 | .v0 => 4

/-- A bound on the labels the running operation has still to pass: those of its row, and a row of four for every byte
or slot of SEND and READ that is left. -/
def stepsLeft (s : State) : Nat :=
  match s.seq with
  | .run _ l => labelsLeft l + 4 * (s.locals.n - s.locals.i)
  | _ => 0

theorem stepsLeft_run {s : State} {op : Instr} {l : Label} (hs : s.seq = .run op l) :
    stepsLeft s = labelsLeft l + 4 * (s.locals.n - s.locals.i) := by
  rw [stepsLeft, hs]

theorem stepsLeft_rest {s : State} (hs : s.seq.atRest = true) : stepsLeft s = 0 := by
  unfold stepsLeft
  split
  · rw [‹s.seq = _›] at hs; cases hs
  · rfl

theorem labelsLeft_pos (l : Label) : 0 < labelsLeft l := by
  cases l <;> decide

/-- Passing one byte or slot more outweighs going back from the last of the four labels to the first. -/
theorem next_row_lowers {i n : Nat} (h : i < n) : 4 + 4 * (n - (i + 1)) < 1 + 4 * (n - i) := by
  omega

/-- A running operation returns, faults, is refused, or runs on with the divisor it had. -/
theorem Took.rests_or_runs {i : Instr} {l : Label} {s t : State} (h : Took i s t) (hs : s.seq = .run i l) :
    t.seq.atRest = true ∨ (∃ l', t.seq = .run i l') ∧ t.divisor = s.divisor := by
  cases h with
  | noInstance | newRefused | newDone | initI1None | initI2 | startS2 | stopP1 | headerWide | headerH3 | sendEnd
  | sendErr | readEnd | readErr | decodeX0 | awaitA0 | unknown => exact .inl rfl
  | held | cmdEnable | cmdStart | cmdStop | cmdXfer | cmdXferAck => exact .inr ⟨⟨l, by simpa using hs⟩, by simp⟩
  | _ => exact .inr ⟨⟨_, rfl⟩, by simp⟩

/-- Every step of a running operation but a held poll lowers `stepsLeft`; where `T3` and `V3` go back to the first
label of the row, the index has come nearer to its end. -/
theorem Took.lowers_stepsLeft {i : Instr} {l : Label} {s t : State} (ht : Took i s t) (h : Inv s)
    (hs : s.seq = .run i l) (hpoll : l ∈ [.s1, .p1, .h2, .t2, .v1, .a0] → s.intFlag = true) :
    stepsLeft t < stepsLeft s := by
  have hpos := labelsLeft_pos l
  have hl := h.label_of_run hs
  have hleft := stepsLeft_run hs
  cases ht with
  | newEnter hr | initEnter hr | startEnter hr | stopEnter hr | headerEnter hr | sendEnter hr | readEnter hr
  | decodeEnter hr | awaitEnter hr => cases hr.symm.trans hs
  | noInstance | newRefused | newDone | initI1None | initI2 | startS2 | stopP1 | headerWide | headerH3 | sendEnd
  | sendErr | readEnd | readErr | decodeX0 | awaitA0 | unknown =>
    rw [hleft, stepsLeft_rest rfl]
    omega
  | held hs' _ hw hf =>
    cases hs.symm.trans hs'
    cases hf.symm.trans (hpoll hw)
  | sendT3 hs' =>
    cases hs.symm.trans hs'
    obtain ⟨-, hlt⟩ := (localsHeld_send hs).1 h.locals_held
    rw [hleft]
    exact next_row_lowers hlt
  | readV3 hs' =>
    cases hs.symm.trans hs'
    obtain ⟨-, -, -, hlt⟩ := (localsHeld_read hs).1 h.locals_held
    rw [hleft]
    exact next_row_lowers hlt
  | cmdEnable | cmdStart | cmdStop | cmdXfer | cmdXferAck => cases hl
  | initI0 hs' | initI1 hs' | startS0 hs' | startS1 hs' | stopP0 hs' | headerH0 hs' | headerH1 hs' | headerH2 hs'
  | sendT0 hs' | sendT1 hs' | sendT2 hs' | readV0 hs' | readV1 hs' | readV2 hs' =>
    cases hs.symm.trans hs'
    simp [stepsLeft, hs, labelsLeft]

/-! ## Under fairness the operation ends -/

/-- A run keeps the invariant. -/
theorem Inv.run {s t : State} {k : Nat} (h : Inv s) (hrun : core.run k s = .next t) : Inv t := by
  induction k generalizing s with
  | zero => cases hrun; exact h
  | succ k ih =>
    cases hstep : step s with
    | next u => exact ih (stepKeepsInv s u h hstep) ((run_step hstep).symm.trans hrun)
    | fault f => simp [Host.Core.run, show core.step s = .fault f from hstep] at hrun
    | refused r => simp [Host.Core.run, show core.step s = .refused r from hstep] at hrun

/-- Fairness of a run is fairness of what is left of it. -/
theorem FairRun.rest {cmds : List Byte} {s t : State} {k : Nat} (h : FairRun cmds s)
    (hrun : core.run k s = .next t) : FairRun cmds t :=
  fun j u v d hj => h (k + j) u v d ((run_add hrun j).trans hj)

/-- The rest a run comes to is one its first state comes to. -/
theorem ComesToRest.of_run {s t : State} {k : Nat} (h : ComesToRest t) (hrun : core.run k s = .next t) :
    ComesToRest s := by
  obtain ⟨j, u, hj, hu⟩ := h
  exact ⟨k + j, u, (run_add hrun j).trans hj, hu⟩

/-- In a fair run the operation comes to be where it was with no command in flight. -/
theorem fair_run_idle {s : State} {op : Instr} {l : Label} {cmds : List Byte} (h : Inv s) (hs : s.seq = .run op l)
    (hcmds : ∀ v, commandOf op = some v → v ∈ cmds) (hfair : FairRun cmds s) :
    ∃ k u, core.run k s = .next u ∧ u.busy = false ∧ u.seq = s.seq ∧ u.divisor = s.divisor ∧
      stepsLeft u = stepsLeft s := by
  cases hb : s.busy with
  | false => exact ⟨0, s, rfl, hb, rfl, rfl, rfl⟩
  | true =>
    obtain ⟨v, hv, hp⟩ := h.pending_command hb hs
    obtain ⟨j, u, hj, hu⟩ := hfair 0 s v s.twdr rfl hb hp (hcmds v hv)
    obtain ⟨k, st, d, ms, n, hk⟩ := run_completes h hb hj hu
    exact ⟨k, _, hk, rfl, rfl, rfl, rfl⟩

/-- Settles O59, by induction on `stepsLeft`: the command in flight, if there is one, is completed, and then the
operation's step lowers it. -/
theorem fairOperationsEnd : Obligations.FairOperationsEnd := by
  intro s op l h hs hop hnew cmds hcmds hfair
  induction hn : stepsLeft s using Nat.strong_induction_on generalizing s l with
  | _ n ih =>
  obtain ⟨k, u, hk, hb, hseq, hdiv, hleft⟩ := fair_run_idle h hs hcmds hfair
  have hu := h.run hk
  rw [hs] at hseq
  refine ComesToRest.of_run ?_ hk
  have hl := hu.label_of_run hseq
  obtain ⟨t, ht⟩ := exec_answers hu hseq fun hi => hdiv.trans (hnew hi)
  have hstep : core.run 1 u = .next t := run_step ((step_label hb hseq hl).trans ht)
  refine ComesToRest.of_run ?_ hstep
  have htook := exec_took ht
  rcases htook.rests_or_runs hseq with hrest | ⟨⟨l', hs'⟩, hdiv'⟩
  · exact ⟨0, t, rfl, hrest⟩
  · have hpoll : l ∈ [.s1, .p1, .h2, .t2, .v1, .a0] → u.intFlag = true := by
      intro hw
      obtain ⟨hwait, -⟩ := await_command hl hw hop
      simpa [hb] using hu.await_flag (hseq ▸ hwait)
    have hlt := htook.lowers_stepsLeft hu hseq hpoll
    exact ih _ (by omega) t l' (hu.run hstep) hs' (fun hi => (hdiv'.trans hdiv).trans (hnew hi))
      ((hfair.rest hk).rest hstep) rfl

end Sys2Proof.Machine
end

section
/-! SUPPORT. The statements about construction and initialisation: the divisor law and the admitted frequencies, NEW and
INIT label by label, what INIT leaves unchanged, and the registers after it. -/

namespace Sys2Proof.Machine

/-! ## The divisor (R93, R94, R95) -/

/-- The frequencies that pass R93's tests; at 0 the quotient is 0. -/
theorem divisorOf_eq_ok_iff {f : Nat} {d : Byte} :
    divisorOf f = .ok d ↔
      (8 ≤ 16000000 / (2 * f) ∧ 16000000 / (2 * f) ≤ 263) ∧ d = BitVec.ofNat 8 (16000000 / (2 * f) - 8) := by
  constructor
  · intro h
    unfold divisorOf at h
    split at h
    · cases h
    split at h
    · cases h
    · rename_i hq
      rw [Config.fCpu, not_or, Nat.not_lt, Nat.not_lt] at hq
      exact ⟨by omega, (Except.ok.inj h).symm⟩
  · rintro ⟨⟨h8, h263⟩, rfl⟩
    exact divisorOf_admitted (by rintro rfl; exact absurd h8 (by decide)) h8 h263

/-- A nonzero frequency whose divisor is no byte (R93). -/
theorem divisorOf_outOfRange {f : Nat} (h0 : f ≠ 0) (hq : 16000000 / (2 * f) < 8 ∨ 263 < 16000000 / (2 * f)) :
    divisorOf f = .error .frequencyOutOfRange := by
  have hq' : 16000000 / (2 * f) < 8 ∨ 255 < 16000000 / (2 * f) - 8 := by omega
  rw [divisorOf, if_neg h0]
  exact if_pos hq'

/-- The bounds on the quotient as bounds on the frequency (R94). -/
theorem quotient_mem_iff (f : Nat) :
    8 ≤ 16000000 / (2 * f) ∧ 16000000 / (2 * f) ≤ 263 ↔ 30304 ≤ f ∧ f ≤ 1000000 := by
  rcases Nat.eq_zero_or_pos f with rfl | hf
  · decide
  have hpos : 0 < 2 * f := by omega
  rw [Nat.le_div_iff_mul_le hpos, ← Nat.lt_succ_iff (n := 263), Nat.div_lt_iff_lt_mul hpos]
  omega

/-- The lowest admitted frequencies, whose exact quotient is over 263, share the quotient 263 (R94). -/
theorem quotient_lowest {f : Nat} (h1 : 30304 ≤ f) (h2 : f ≤ 30418) : 16000000 / (2 * f) = 263 :=
  Nat.div_eq_of_lt_le (by omega) (by omega)

/-- Settles O16: R93's tests bound the quotient, and the bounds on the quotient are bounds on the frequency. -/
theorem admittedFrequencies : Obligations.AdmittedFrequencies := by
  intro f
  refine ⟨Nat.mul_div_mul_left 8000000 f Nat.two_pos, ?_, fun d hd => ?_, by omega, fun h1 h2 => ?_⟩
  · simp only [divisorOf_eq_ok_iff, exists_and_left, exists_eq, and_true, quotient_mem_iff]
  · obtain ⟨⟨-, h263⟩, rfl⟩ := divisorOf_eq_ok_iff.1 hd
    exact (BitVec.toNat_ofNat _ _).trans (Nat.mod_eq_of_lt (by omega))
  · rw [divisorOf_eq_ok_iff, quotient_lowest h1 h2]
    decide

/-! ## NEW and INIT, label by label -/

/-- NEW at F0 with a frequency that fails the tests of R93 (R122). -/
theorem execNew_refused {s : State} {r : Reason} (hs : s.seq = .run .new .f0) (hr : divisorOf s.freq = .error r) :
    execNew s = .next (refuse r s) := by
  refine (turn_run hs _ _).trans ?_
  simp only [hr]

/-- Settles O14: NEW at F0 answers as the divisor does. -/
theorem newSteps : Obligations.NewSteps := by
  intro s
  refine ⟨fun hs => turn_ready hs _ _ _, fun hs h0 => execNew_refused hs (if_pos h0),
    fun hs h0 hq => execNew_refused hs (divisorOf_outOfRange h0 hq), fun hs h0 h8 h263 hd => ?_⟩
  refine (turn_run hs _ _).trans ?_
  simp only [divisorOf_admitted h0 h8 h263, hd]
  rfl

/-- INIT at I1 writes the divisor to TWBR (R97). -/
theorem execInit_i1 {s : State} {d : Byte} (hs : s.seq = .run .init .i1) (hd : s.divisor = some d) :
    execInit s = .next (goto .init .i2 (writeTwbr d s)) := by
  refine (turn_run hs _ _).trans ?_
  simp only [hd, memWrite_twbr, andThen_next]

/-- Settles O17, a clause per label; 0x04 has bit 7 = 0, so that its write commands nothing (R61). -/
theorem initSteps : Obligations.InitSteps := by
  intro s d hd
  refine ⟨fun hs => ?_, fun hs => turn_run hs _ _, fun hs => execInit_i1 hs hd, fun hs => ?_⟩
  · exact (turn_ready hs _ _ _).trans (accept_some hd _ _ _)
  · refine (turn_run hs _ _).trans ?_
    exact congrArg (fun u => Host.Outcome.next (finish none u)) (writeTwcr_plain (by decide) s)

/-! ## INIT as a whole -/

theorem step_init_i0 {s : State} (hb : s.busy = false) (hs : s.seq = .run .init .i0) :
    step s = .next (goto .init .i1 (writeTwsr 0x00#8 s)) :=
  (step_label hb hs (by decide)).trans (turn_run hs _ _)

theorem step_init_i1 {s : State} {d : Byte} (hb : s.busy = false) (hs : s.seq = .run .init .i1)
    (hd : s.divisor = some d) : step s = .next (goto .init .i2 (writeTwbr d s)) :=
  (step_label hb hs (by decide)).trans (execInit_i1 hs hd)

theorem step_init_i2 {s : State} (hb : s.busy = false) (hs : s.seq = .run .init .i2) :
    step s = .next (finish none (writeTwcr 0x04#8 s)) :=
  (step_label hb hs (by decide)).trans (turn_run hs _ _)

/-- The state INIT leaves when it began at its first label (R99). -/
def initReturned (d : Byte) (s : State) : State :=
  { s with
    seq := .ready, ret := none, twsrWr := some 0x00#8, twbr := d, twcrWr := some 0x04#8, epoch := s.epoch + 1 }

/-- INIT's three labels, with no command in flight (R97, R98). -/
theorem run_init {s : State} {d : Byte} (hd : s.divisor = some d) (hb : s.busy = false)
    (hs : s.seq = .run .init .i0) : core.run 3 s = .next (initReturned d s) := by
  calc core.run 3 s
    _ = core.run 2 (goto .init .i1 (writeTwsr 0x00#8 s)) := run_step (step_init_i0 hb hs)
    _ = core.run 1 (goto .init .i2 (writeTwbr d _)) := run_step (step_init_i1 hb rfl hd)
    _ = core.run 0 (finish none (writeTwcr 0x04#8 _)) := run_step (step_init_i2 hb rfl)
    _ = .next (initReturned d s) := by
      rw [writeTwcr_plain (by decide)]
      rfl

/-- Settles O18: the fields of the state INIT leaves. -/
theorem initLeaves : Obligations.InitLeaves := fun _ _ hd hb hs =>
  ⟨_, run_init hd hb hs, rfl, rfl, rfl, rfl, rfl, rfl, rfl⟩

/-- INIT commands nothing and reads no status, so that the flag, the command in flight, the locals and the fault mark
stay at every label (R97). -/
theorem Took.init_frame {s t : State} (h : Took .init s t) :
    t.intFlag = s.intFlag ∧ t.busy = s.busy ∧ t.pending = s.pending ∧ t.locals = s.locals ∧ t.fault = s.fault ∧
      t.faultAt = s.faultAt := by
  cases h with
  | initI2 => rw [writeTwcr_plain (by decide)]; exact ⟨rfl, rfl, rfl, rfl, rfl, rfl⟩
  | unknown _ hl hw =>
    simp only [List.mem_cons, List.not_mem_nil, or_false] at hw
    rcases hw with rfl | rfl | rfl | rfl <;> simp [labelsOf] at hl
  | _ => exact ⟨rfl, rfl, rfl, rfl, rfl, rfl⟩

/-- Off TWBR and TWCR a read depends on the status and data registers alone (R57, R60). -/
theorem memRead_congr_twsr_twdr {s t : State} {a : Addr} (h1 : a ≠ 0x00B8#16) (h2 : a ≠ 0x00BC#16)
    (hstatus : t.twsrRd = s.twsrRd) (hdata : t.twdr = s.twdr) : memRead a t = memRead a s := by
  simp [memRead, Config.twbrAddr, Config.twcrAddr, h1, h2, hstatus, hdata]

/-- Settles O36: `Took.init_frame` and the frames of `Took`; the write of the status register leaves its read view
(R58). -/
theorem frameOfInit : Obligations.FrameOfInit := by
  intro s t hexec
  have h := exec_took hexec
  obtain ⟨hflag, hbusy, hpending, hlocals, hfault, hat⟩ := h.init_frame
  obtain ⟨htwdr, -⟩ := h.twdr_eq (by decide) (by simp)
  obtain ⟨-, -, -, -, -, htwsr⟩ := h.keeps_caller
  exact ⟨hflag, hbusy, hpending, htwdr, h.phase_eq rfl, hlocals, hfault, hat,
    fun a h1 h2 => memRead_congr_twsr_twdr h1 h2 htwsr htwdr⟩

end Sys2Proof.Machine
end

section
/-! SUPPORT. The statements about the bus conditions: what START and STOP leave unchanged, and each of them from its
request to its end, for every status byte. -/

namespace Sys2Proof.Machine

/-! ## Frames -/

/-- START's one write is S0's, of the control register; S2 notes the status in the locals (R100). -/
theorem Took.start_frame {s t : State} (h : Took .start s t) :
    (∀ a, a ≠ 0x00BC#16 → memRead a t = memRead a s) ∧
      t.locals = { s.locals with raw := t.locals.raw, status := t.locals.status } := by
  cases h with
  | startS0 => exact ⟨fun _ ha => (memRead_of_memWrite (memWrite_twcr 0xA4#8 s) ha :), by simp⟩
  | _ => exact ⟨fun _ _ => rfl, rfl⟩

/-- STOP's one write is P0's, of the control register; it has no label that reads the status, so that it notes none and
raises no fault (R103, R104). -/
theorem Took.stop_frame {s t : State} (h : Took .stop s t) :
    (∀ a, a ≠ 0x00BC#16 → memRead a t = memRead a s) ∧ t.locals = s.locals ∧ t.fault = s.fault ∧
      t.faultAt = s.faultAt := by
  cases h with
  | stopP0 => exact ⟨fun _ ha => (memRead_of_memWrite (memWrite_twcr 0x94#8 s) ha :), by simp⟩
  | unknown _ hl hw =>
    simp only [labelsOf, List.mem_cons, List.not_mem_nil, or_false] at hl
    rcases hl with rfl | rfl <;> simp at hw
  | _ => exact ⟨fun _ _ => rfl, rfl, rfl, rfl⟩

/-- Settles O37: the frames of START and STOP, over the cases of `Took`. -/
theorem frameOfStartStop : Obligations.FrameOfStartStop :=
  ⟨fun _ _ h => (exec_took h).start_frame, fun _ _ h => (exec_took h).stop_frame⟩

/-! ## From the request to the completed command -/

/-- The conditions: the operation, its two first labels, the command the first one writes and the phase acceptance sets
(R100, R103). -/
inductive Condition : Instr → Label → Label → Byte → Phase → Prop where
  | start : Condition .start .s0 .s1 0xA4#8 .startPending
  | stop : Condition .stop .p0 .p1 0x94#8 .stopPending

/-- The state at a condition's await when the peripheral has answered the command with the bytes `st` and `d`. -/
def completedAt (op : Instr) (await : Label) (v : Byte) (p : Phase) (rest : List Call) (ms : List PeripheralMove)
    (st d : Byte) (s : State) : State :=
  { s with
    calls := rest, script := ms, seq := .run op await, ret := none, phase := p, twcrWr := some v, twsrRd := st,
    twdr := d, intFlag := true, busy := false, pending := none, epoch := s.epoch + 2 }

section
variable {op : Instr} {first await : Label} {v dv st d : Byte} {p : Phase} {c : Call} {rest : List Call}
  {ms : List PeripheralMove} {s : State} (h : Condition op first await v p)
include h

theorem Condition.exec_request (hs : s.seq = .ready) (hd : s.divisor = some dv) :
    exec op s = .next (setPhase p (enter op first s)) := by
  cases h with
  | start | stop => exact (turn_ready hs _ _ _).trans (accept_some hd _ _ _)

theorem Condition.step_first (hb : s.busy = false) (hs : s.seq = .run op first) :
    step s = .next (goto op await (writeTwcr v s)) := by
  cases h with
  | start => exact step_start_s0 hb hs
  | stop => exact (step_label hb hs (by decide)).trans (turn_run hs _ _)

theorem Condition.isCommand : isCommand v = true := by
  cases h <;> rfl

/-- The three first steps of both: considered, the command written, completed. -/
theorem Condition.run_completed (hs : s.seq = .ready) (hd : s.divisor = some dv) (hb : s.busy = false)
    (hu : upcoming s = c :: rest) (hc : c.request = .ok op) (hm : s.script = .complete st d :: ms) :
    core.run 3 s = .next (completedAt op await v p rest ms st d s) := by
  have hpresent : presentOperands op c { s with calls := rest } = { s with calls := rest } := by
    cases h <;> rfl
  have hcall : sequencerStep s = exec op { s with calls := rest } :=
    (sequencerStep_call hs hu hc).trans (congrArg (exec op) hpresent)
  have hexec : exec op { s with calls := rest } = .next (setPhase p (enter op first _)) := h.exec_request hs hd
  calc core.run 3 s
    _ = core.run 2 (setPhase p (enter op first { s with calls := rest })) :=
      run_step ((step_idle hb).trans (hcall.trans hexec))
    _ = core.run 1 (goto op await (writeTwcr v _)) := run_step (h.step_first hb rfl)
    _ = core.run 0 (complete st d { goto op await (writeTwcr v _) with script := ms }) := by
      rw [writeTwcr_command h.isCommand]
      exact run_step (step_complete rfl hm)
    _ = .next (completedAt op await v p rest ms st d s) := by
      rw [writeTwcr_command h.isCommand]
      rfl

end

/-! ## START and STOP from the request to the end -/

/-- A request word names its request by its decoding (R70). -/
theorem request_of_word {c : Call} {w : ReqWord} {i : Instr} (hf : c.form = .word w) (hw : decodeReq w = .ok i) :
    c.request = .ok i := by
  simp [Call.request, hf, hw]

/-- The state START leaves on an absent code: the mark, the place, and the result unwritten (R119, R120). -/
def startFaulted (rest : List Call) (ms : List PeripheralMove) (st d : Byte) (s : State) : State :=
  { completedAt .start .s1 0xA4#8 .startPending rest ms st d s with
    seq := .faulted, fault := some st, faultAt := some (.start, .s2),
    locals := { s.locals with raw := st, status := none } }

/-- START at S2 on an absent code (R119). -/
theorem step_start_s2_unknown {s : State} (hb : s.busy = false) (hs : s.seq = .run .start .s2)
    (hst : decodeStatus s.twsrRd = none) :
    step s =
      .next
        { s with
          fault := some s.twsrRd, faultAt := some (.start, .s2), seq := .faulted,
          locals := { s.locals with raw := s.twsrRd, status := none } } :=
  (step_label hb hs (by decide)).trans (unknownStatusFaults .start .s2 s (.inl ⟨rfl, rfl⟩) hs hst)

/-- Settles O52: a named status returns (`run_start`), an absent code faults at S2. -/
theorem startWhole : Obligations.StartWhole := by
  intro s dv st d c rest ms hs hd hb hu hf hm
  have hc : c.request = .ok .start := request_of_word hf rfl
  cases hst : decodeStatus st with
  | some v => exact ⟨_, run_start hs hb hd hu hc hm hst, rfl, rfl, rfl, rfl, rfl, rfl, rfl, rfl, rfl⟩
  | none =>
    have hrun : core.run 5 s = .next (startFaulted rest ms st d s) := by
      calc core.run 5 s
        _ = core.run 2 (completedAt .start .s1 0xA4#8 .startPending rest ms st d s) :=
          run_add (Condition.start.run_completed hs hd hb hu hc hm) 2
        _ = core.run 1 (goto .start .s2 _) := run_step (step_start_s1 rfl rfl rfl)
        _ = core.run 0 (startFaulted rest ms st d s) := run_step (step_start_s2_unknown rfl rfl hst)
    exact ⟨_, hrun, rfl, rfl, rfl, rfl, rfl, rfl, rfl, rfl, rfl, rfl⟩

/-- STOP at P1 returns once the flag is 1, and the phase is Idle (R38, R104). -/
theorem step_stop_p1 {s : State} (hb : s.busy = false) (hs : s.seq = .run .stop .p1) (hf : s.intFlag = true) :
    step s = .next (setPhase .idle (finish (some .ok) s)) :=
  (step_label hb hs (by decide)).trans ((turn_run hs _ _).trans (awaitStep_done hf _))

/-- The register accesses of STOP's labels: its command and the poll, both of the control register. -/
theorem accessAt_stop {s : State} {l : Label} (hs : s.seq = .run .stop l) (hl : l ∈ labelsOf .stop) :
    accessAt s = some (.write 0x00BC#16 0x94#8) ∨ accessAt s = some (.read 0x00BC#16) := by
  simp only [labelsOf, List.mem_cons, List.not_mem_nil, or_false] at hl
  rcases hl with rfl | rfl
  · exact .inl (by simp [accessAt, hs])
  · exact .inr (by simp [accessAt, hs])

/-- Settles O53: after the completed command P1 returns whatever the status byte is. -/
theorem stopWhole : Obligations.StopWhole := by
  refine ⟨fun s dv st d c rest ms hs hd hb hu hf hm => ?_, fun s l hs hl => ?_⟩
  · have hcompleted := Condition.stop.run_completed hs hd hb hu (request_of_word hf rfl) hm
    have hrun : core.run 4 s = .next (setPhase .idle (finish (some .ok) _)) :=
      (run_add hcompleted 1).trans (run_step (step_stop_p1 rfl rfl rfl))
    exact ⟨_, hrun, rfl, rfl, rfl, rfl, rfl, rfl, rfl, rfl⟩
  · rcases accessAt_stop hs hl with hx | hx <;> simp [hx]

end Sys2Proof.Machine
end

section
/-! SUPPORT. The statements about the transfers: READ label by label, the part from a written command to its answer that
the three transfers share, and each of them from its request to its end, for every number of bytes. -/

namespace Sys2Proof.Machine

/-! ## READ, label by label -/

/-- The turn of READ at `V0` with a slot left: the command of the call (R112, R113). -/
theorem execRead_command {e : Bool} {s : State} (hs : s.seq = .run (.read e) .v0) (hi : s.locals.i ≠ s.locals.n) :
    execRead e s = .next (goto (.read e) .v1 (writeTwcr s.locals.cmd s)) :=
  (turn_run hs _ _).trans (if_neg hi)

/-- The turn of READ at `V2` on a named status: the required one alone goes on to the data register (R112). -/
theorem execRead_status {e : Bool} {s : State} {st : BusStatus} (hs : s.seq = .run (.read e) .v2)
    (hst : decodeStatus s.twsrRd = some st) :
    execRead e s =
      if st = s.locals.expected then .next (goto (.read e) .v3 (noteStatus s.twsrRd s))
      else .next (finish (some (.err st)) (noteStatus s.twsrRd s)) :=
  (turn_run hs _ _).trans (checkStatus_named hst _)

/-- The turn of READ at `V3`: the data register into slot `i` (R112). -/
theorem execRead_slot {e : Bool} {s : State} (hs : s.seq = .run (.read e) .v3) (hi : s.locals.i < s.buf.length) :
    execRead e s = .next (goto (.read e) .v0 (advanceIndex (storeSlot s.twdr s))) := by
  refine (turn_run hs _ _).trans ?_
  simp only [memRead_twdr, if_pos hi]

/-- Settles O23, a clause per label. -/
theorem readSteps : Obligations.ReadSteps := by
  intro e s
  refine ⟨fun d hd hs => ?_, fun hs hi => ?_, fun hs hi hv => ?_, fun hs hf => ?_, fun hs hst => ?_,
    fun st hs hst hne => ?_, fun hs hi => ?_⟩
  · exact (turn_ready hs _ _ _).trans (accept_some hd _ _ _)
  · exact (turn_run hs _ _).trans (if_pos hi)
  · exact (execRead_command hs hi).trans (congrArg (fun u => Host.Outcome.next (goto _ _ u)) (writeTwcr_command hv _))
  · exact (turn_run hs _ _).trans (awaitStep_done hf _)
  · refine (execRead_status hs hst).trans ((if_pos rfl).trans ?_)
    rw [noteStatus, hst]
    rfl
  · refine (execRead_status hs hst).trans ((if_neg hne).trans ?_)
    rw [noteStatus, hst]
    rfl
  · exact execRead_slot hs hi

/-! ## From a written command to its answer -/

/-- The transfers, each with its await and its status label (R107, R110, R112). -/
inductive Transfer : Instr → Label → Label → Prop where
  | sendHeader (a : Byte) (dir : Direction) : Transfer (.sendHeader a dir) .h2 .h3
  | send : Transfer .send .t2 .t3
  | read (e : Bool) : Transfer (.read e) .v1 .v2

/-- The state at label `l` when the peripheral has answered the command `v` with the bytes `st` and `d`. -/
def answered (op : Instr) (l : Label) (v st d : Byte) (ms : List PeripheralMove) (s : State) : State :=
  { s with
    script := ms, seq := .run op l, twcrWr := some v, twsrRd := st, twdr := d, intFlag := true, busy := false,
    pending := none, epoch := s.epoch + 2 }

/-- The step that considers an accepted request (R21). -/
theorem step_request {s t : State} {c : Call} {rest : List Call} {i : Instr} (hs : s.seq = .ready)
    (hb : s.busy = false) (hu : upcoming s = c :: rest) (hc : c.request = .ok i)
    (hi : exec i (presentOperands i c { s with calls := rest }) = .next t) : step s = .next t :=
  (step_idle hb).trans ((sequencerStep_call hs hu hc).trans hi)

section
variable {op : Instr} {await status : Label} {v st d : Byte} {ms : List PeripheralMove} {s : State}
  (h : Transfer op await status)
include h

/-- With the flag 1 the await goes on to the status label (R88). -/
theorem Transfer.step_await (hb : s.busy = false) (hs : s.seq = .run op await) (hf : s.intFlag = true) :
    step s = .next (goto op status s) := by
  cases h with
  | sendHeader | send | read =>
    exact (step_label hb hs (by simp [labelsOf])).trans ((turn_run hs _ _).trans (awaitStep_done hf _))

/-- The three steps all transfers share: the command written, completed, and the flag polled. -/
theorem Transfer.run_answered (hv : isCommand v = true) (hm : s.script = .complete st d :: ms)
    (hissue : step s = .next (goto op await (writeTwcr v s))) :
    core.run 3 s = .next (answered op status v st d ms s) := by
  rw [writeTwcr_command hv] at hissue
  calc core.run 3 s
    _ = core.run 2 (goto op await _) := run_step hissue
    _ = core.run 1 (complete st d { goto op await _ with script := ms }) := run_step (step_complete rfl hm)
    _ = core.run 0 (goto op status _) := run_step (h.step_await rfl rfl rfl)

end

/-! ## SEND_HEADER -/

section
variable {s : State} {a st : Byte} {dir : Direction}

/-- SEND_HEADER at H0 writes the payload, kept while the flag is 1 (R59, R107). -/
theorem step_header_h0 (hb : s.busy = false) (hs : s.seq = .run (.sendHeader a dir) .h0) (hf : s.intFlag = true) :
    step s = .next (goto (.sendHeader a dir) .h1 { s with twdr := s.locals.payload }) :=
  (step_label hb hs (by simp [labelsOf])).trans
    ((turn_run hs _ _).trans (congrArg (fun u => Host.Outcome.next (goto _ _ u)) (writeTwdr_ready hf _)))

/-- SEND_HEADER at H1 writes its command (R107). -/
theorem step_header_h1 (hb : s.busy = false) (hs : s.seq = .run (.sendHeader a dir) .h1) :
    step s = .next (goto (.sendHeader a dir) .h2 (writeTwcr 0x84#8 s)) :=
  (step_label hb hs (by simp [labelsOf])).trans (turn_run hs _ _)

/-- SEND_HEADER at H3 on a named status (R107, R108). -/
theorem step_header_h3 {v : BusStatus} (hb : s.busy = false) (hs : s.seq = .run (.sendHeader a dir) .h3)
    (hst : decodeStatus s.twsrRd = some v) :
    step s = .next (finish (some (resultOf s.locals.expected v)) (noteStatus s.twsrRd s)) :=
  (step_label hb hs (by simp [labelsOf])).trans ((turn_run hs _ _).trans (checkStatus_named hst _))

/-- SEND_HEADER at H3 on an absent code (R119). -/
theorem step_header_h3_unknown (hb : s.busy = false) (hs : s.seq = .run (.sendHeader a dir) .h3)
    (hst : decodeStatus s.twsrRd = none) :
    step s = .next (raiseUnknownStatus s.twsrRd (noteStatus s.twsrRd s)) :=
  (step_label hb hs (by simp [labelsOf])).trans ((turn_run hs _ _).trans (checkStatus_absent hst _))

end

/-- The state at H1: the request accepted and the payload in the data register. -/
def headerLoaded (a : Byte) (dir : Direction) (rest : List Call) (s : State) : State :=
  goto (.sendHeader a dir) .h1
    { headerSetup a dir (enter (.sendHeader a dir) .h0 { s with calls := rest }) with twdr := headerPayload a dir }

/-- SEND_HEADER of a 7-bit address to H1 (R107). -/
theorem run_header_loaded {s : State} {a dv : Byte} {dir : Direction} {c : Call} {rest : List Call}
    (hs : s.seq = .ready) (hd : s.divisor = some dv) (hb : s.busy = false) (hu : upcoming s = c :: rest)
    (hc : c.request = .ok (.sendHeader a dir)) (ha : a ≤ 0x7F#8) (hf : s.intFlag = true) :
    core.run 2 s = .next (headerLoaded a dir rest s) :=
  (run_step (step_request hs hb hu hc (execSendHeader_enter (s := { s with calls := rest }) hs hd ha dir))).trans
    (run_step (step_header_h0 hb rfl hf))

/-- The payload by the direction's bit (R76). -/
theorem headerPayload_eq_or (a : Byte) (dir : Direction) :
    headerPayload a dir = (a <<< 1) ||| (if dir = .read then 0x01#8 else 0x00#8) := by
  cases dir <;> rfl

/-- `Ok` exactly on the acknowledge of the header's own direction (R108). -/
theorem resultOf_headerExpected (dir : Direction) (v : BusStatus) :
    resultOf (headerExpected dir) v =
      if (dir = .read ∧ v = .readHeaderAcked) ∨ (dir = .write ∧ v = .writeHeaderAcked) then .ok else .err v :=
  if_congr (by cases dir <;> simp [headerExpected]) rfl rfl

/-- Settles O54: the payload is loaded, latched with the command, and the answer's status decides at H3. -/
theorem sendHeaderWhole : Obligations.SendHeaderWhole := by
  intro s a dir dv st d c rest ms hs hd hb hu hform ha hf hm
  have hloaded : core.run 2 s = .next (headerLoaded a dir rest s) :=
    run_header_loaded hs hd hb hu (by rw [Call.request, hform]) ha hf
  have hissue : step (headerLoaded a dir rest s) = .next (goto (.sendHeader a dir) .h2 (writeTwcr 0x84#8 _)) :=
    step_header_h1 hb rfl
  have hanswered : core.run 5 s = .next (answered (.sendHeader a dir) .h3 0x84#8 st d ms _) :=
    (run_add hloaded 3).trans ((Transfer.sendHeader a dir).run_answered rfl hm hissue)
  refine ⟨⟨_, (run_add hloaded 1).trans (run_step hissue), ?_⟩, ?_⟩
  · rw [← headerPayload_eq_or]
    rfl
  · cases hst : decodeStatus st with
    | none =>
      exact ⟨_, (run_add hanswered 1).trans (run_step (step_header_h3_unknown rfl rfl hst)),
        rfl, rfl, rfl, rfl, rfl, rfl, rfl⟩
    | some v =>
      exact ⟨_, (run_add hanswered 1).trans (run_step (step_header_h3 rfl rfl hst)),
        rfl, rfl, rfl, rfl, rfl, congrArg some (resultOf_headerExpected dir v)⟩

/-! ## The loops of SEND and READ -/

/-- A loop that goes on for each of its first `n` rows, of five steps each, comes to any of them. -/
theorem run_rows {P : Nat → State → Prop} {s₀ : State} {k n : Nat} (h : P 0 s₀)
    (hrow : ∀ j t, j < n → P j t → ∃ u, core.run 5 t = .next u ∧ P (j + 1) u) (hk : k ≤ n) :
    ∃ t, core.run (5 * k) s₀ = .next t ∧ P k t := by
  induction k with
  | zero => exact ⟨s₀, rfl, h⟩
  | succ k ih =>
    obtain ⟨t, hrun, ht⟩ := ih (Nat.le_of_succ_le hk)
    obtain ⟨u, hstep, hu⟩ := hrow k t hk ht
    exact ⟨u, (run_add hrun 5).trans hstep, hu⟩

/-- From the accepted request `s₀`, at the loop's first label again after `k` rows, each of one command and one
completion (R110, R112). -/
structure Rows (op : Instr) (first : Label) (s₀ : State) (k : Nat) (t : State) : Prop where
  seq : t.seq = .run op first
  busy : t.busy = false
  script : t.script = s₀.script.drop k
  calls : t.calls = s₀.calls
  fault : t.fault = s₀.fault
  epoch : t.epoch = s₀.epoch + 2 * k
  index : t.locals.i = k
  length : t.locals.n = s₀.locals.n

/-- The next row's beginning, once the command `v` was answered with the bytes `st` and `d`. -/
def nextRow (op : Instr) (first : Label) (v st d : Byte) (ms : List PeripheralMove) (s : State) : State :=
  goto op first (advanceIndex (noteStatus st (answered op first v st d ms s)))

section
variable {op : Instr} {first : Label} {s₀ t : State} {k : Nat} (h : Rows op first s₀ k t)
include h

theorem Rows.next {st d : Byte} {ms : List PeripheralMove} (hm : t.script = .complete st d :: ms) (v : Byte) :
    Rows op first s₀ (k + 1) (nextRow op first v st d ms t) where
  seq := rfl
  busy := rfl
  script := by rw [← List.tail_drop, ← h.script, hm]; rfl
  calls := h.calls
  fault := h.fault
  epoch := congrArg (· + 2) h.epoch
  index := congrArg (· + 1) h.index
  length := h.length

/-- Filling a slot changes nothing that the loops share. -/
theorem Rows.of_storeSlot (v : Byte) : Rows op first s₀ k (storeSlot v t) := { h with }

/-- The answer to the next command is entry `k` of the bytes the peripheral sends with the status `st`. -/
theorem Rows.script_cons {st d : Byte} {ds : List Byte} (hds : ds.map (.complete st) <+: s₀.script)
    (hd : ds[k]? = some d) : t.script = .complete st d :: s₀.script.drop (k + 1) := by
  obtain ⟨ms, hms⟩ := hds
  obtain ⟨hk, hd⟩ := List.getElem?_eq_some_iff.1 hd
  rw [h.script, ← hms, List.drop_eq_getElem_cons (by simp; omega), List.getElem_append_left (by simpa using hk),
    List.getElem_map, hd]

end

/-! ## SEND -/

section
variable {s : State}

/-- SEND at T0 with a byte left writes it, kept while the flag is 1 (R59, R110). -/
theorem step_send_t0 {b : Byte} (hb : s.busy = false) (hs : s.seq = .run .send .t0) (hi : s.locals.i ≠ s.locals.n)
    (hbyte : s.data[s.locals.i]? = some b) (hf : s.intFlag = true) :
    step s = .next (goto .send .t1 { s with twdr := b }) :=
  (step_label hb hs (by decide)).trans
    ((execSend_byte hs hi hbyte).trans (congrArg (fun u => Host.Outcome.next (goto _ _ u)) (writeTwdr_ready hf _)))

/-- SEND at T0 with no byte left returns (R110). -/
theorem step_send_t0_end (hb : s.busy = false) (hs : s.seq = .run .send .t0) (hi : s.locals.i = s.locals.n) :
    step s = .next (finish (some .ok) s) :=
  (step_label hb hs (by decide)).trans ((turn_run hs _ _).trans (if_pos hi))

/-- SEND at T1 writes its command (R110). -/
theorem step_send_t1 (hb : s.busy = false) (hs : s.seq = .run .send .t1) :
    step s = .next (goto .send .t2 (writeTwcr 0x84#8 s)) :=
  (step_label hb hs (by decide)).trans (turn_run hs _ _)

/-- SEND at T3 on a named status: DataSentAcked alone goes on (R110, R111). -/
theorem step_send_t3 {v : BusStatus} (hb : s.busy = false) (hs : s.seq = .run .send .t3)
    (hst : decodeStatus s.twsrRd = some v) :
    step s =
      if v = .dataSentAcked then .next (goto .send .t0 (advanceIndex (noteStatus s.twsrRd s)))
      else .next (finish (some (.err v)) (noteStatus s.twsrRd s)) :=
  (step_label hb hs (by decide)).trans ((turn_run hs _ _).trans (checkStatus_named hst _))

end

/-- The state at T0 of an accepted SEND (R110). -/
def sendAccepted (c : Call) (rest : List Call) (s : State) : State :=
  sendSetup (enter .send .t0 { s with calls := rest, data := c.data })

/-- SEND's loop after `k` acknowledged bytes of the request accepted as `s₀`. -/
structure Sending (s₀ : State) (k : Nat) (t : State) : Prop extends Rows .send .t0 s₀ k t where
  flag : t.intFlag = true
  data : t.data = s₀.data

section
variable {s₀ t : State} {k : Nat} {b st d : Byte} {ms : List PeripheralMove} (h : Sending s₀ k t)
  (hn : s₀.locals.n = s₀.data.length) (hbyte : s₀.data[k]? = some b)
include h hn hbyte

/-- Byte `k` goes to the data register (R110). -/
theorem Sending.step_byte : step t = .next (goto .send .t1 { t with twdr := b }) := by
  obtain ⟨hk, -⟩ := List.getElem?_eq_some_iff.1 hbyte
  refine step_send_t0 h.busy h.seq ?_ ?_ h.flag
  · rw [h.index, h.length, hn]
    exact hk.ne
  · rw [h.index, h.data, hbyte]

/-- Byte `k` is latched with its command (R61, R110). -/
theorem Sending.run_latched : ∃ u, core.run 2 t = .next u ∧ u.pending = some (0x84#8, b) :=
  ⟨_, (run_step (h.step_byte hn hbyte)).trans (run_step (step_send_t1 h.busy rfl)), rfl⟩

theorem Sending.run_answered (hm : t.script = .complete st d :: ms) :
    core.run 4 t = .next (answered .send .t3 0x84#8 st d ms t) :=
  (run_step (h.step_byte hn hbyte)).trans (Transfer.send.run_answered rfl hm (step_send_t1 h.busy rfl))

/-- An acknowledged byte leads to the next one (R110). -/
theorem Sending.run_acked (hm : t.script = .complete 0x28#8 d :: ms) :
    ∃ u, core.run 5 t = .next u ∧ Sending s₀ (k + 1) u := by
  have hacked : step (answered .send .t3 0x84#8 0x28#8 d ms t) = .next (nextRow .send .t0 0x84#8 0x28#8 d ms t) :=
    (step_send_t3 rfl rfl rfl).trans (if_pos rfl)
  exact ⟨_, (run_add (h.run_answered hn hbyte hm) 1).trans (run_step hacked), h.toRows.next hm _, rfl, h.data⟩

end

section
variable {s : State} {dv : Byte} {c : Call} {rest : List Call} {ds : List Byte} {k : Nat} (hs : s.seq = .ready)
  (hd : s.divisor = some dv) (hb : s.busy = false) (hf : s.intFlag = true) (hu : upcoming s = c :: rest)
  (hc : c.form = .word 0x5000#16) (hds : ds.map (.complete 0x28#8) <+: s.script) (hle : ds.length ≤ c.data.length)
  (hk : k ≤ ds.length)
include hs hd hb hf hu hc hds hle hk

/-- SEND from its request through `k` acknowledged bytes (R110). -/
theorem run_send_rows : ∃ t, core.run (5 * k + 1) s = .next t ∧ Sending (sendAccepted c rest s) k t := by
  have haccept : exec .send { s with calls := rest, data := c.data } = .next (sendAccepted c rest s) :=
    (turn_ready hs _ _ _).trans (accept_some (s := { s with calls := rest, data := c.data }) hd _ _ _)
  have hstart : Sending (sendAccepted c rest s) 0 (sendAccepted c rest s) :=
    ⟨⟨rfl, hb, rfl, rfl, rfl, rfl, rfl, rfl⟩, hf, rfl⟩
  have hrow (j : Nat) (t : State) (hj : j < ds.length) (ht : Sending (sendAccepted c rest s) j t) :
      ∃ u, core.run 5 t = .next u ∧ Sending (sendAccepted c rest s) (j + 1) u :=
    ht.run_acked rfl (List.getElem?_eq_getElem (hj.trans_le hle))
      (ht.toRows.script_cons hds (List.getElem?_eq_getElem hj))
  obtain ⟨t, hrun, ht⟩ := run_rows hstart hrow hk
  exact ⟨t, (run_step (step_request hs hb hu (request_of_word hc rfl) haccept)).trans hrun, ht⟩

/-- Byte `k` is the one latched with command `k` (R110). -/
theorem run_send_latched {b : Byte} (hbyte : c.data[k]? = some b) :
    ∃ u, core.run (5 * k + 3) s = .next u ∧ u.pending = some (0x84#8, b) := by
  obtain ⟨t, hrun, ht⟩ := run_send_rows hs hd hb hf hu hc hds hle hk
  obtain ⟨u, hlatch, hp⟩ := ht.run_latched rfl hbyte
  exact ⟨u, (run_add hrun 2).trans hlatch, hp⟩

end

/-- Settles O55: every byte is a row of the loop, and after the last one T0 returns. -/
theorem sendWhole : Obligations.SendWhole := by
  intro s dv c rest ds ms hs hd hb hf hu hc hlen hm
  have hds : ds.map (.complete 0x28#8) <+: s.script := ⟨ms, hm.symm⟩
  refine ⟨fun k b hbyte => ?_, ?_⟩
  · obtain ⟨hk, -⟩ := List.getElem?_eq_some_iff.1 hbyte
    exact run_send_latched hs hd hb hf hu hc hds hlen.le (hlen ▸ hk.le) hbyte
  · obtain ⟨t, hrun, ht⟩ := run_send_rows hs hd hb hf hu hc hds hlen.le hlen.ge
    have hend : step t = .next (finish (some .ok) t) :=
      step_send_t0_end ht.busy ht.seq (ht.index.trans ht.length.symm)
    have hscript : t.script = ms := ht.script.trans (by simp [sendAccepted, hm, ← hlen])
    exact ⟨_, (run_add hrun 1).trans (run_step hend), rfl, rfl, ht.calls, hscript, ht.fault, ht.epoch⟩

/-- Settles O56: after `ds.length` acknowledged bytes T3 returns the status of the next one. -/
theorem sendEarlyExit : Obligations.SendEarlyExit := by
  intro s dv st d v c rest ds ms hs hd hb hf hu hc hlt hm hst hne
  have hds : ds.map (.complete 0x28#8) <+: s.script := ⟨_, hm.symm⟩
  refine ⟨fun k b hk hbyte => run_send_latched hs hd hb hf hu hc hds hlt.le hk hbyte, ?_⟩
  obtain ⟨t, hrun, ht⟩ := run_send_rows hs hd hb hf hu hc hds hlt.le le_rfl
  have hscript : t.script = .complete st d :: ms := ht.script.trans (by simp [sendAccepted, hm])
  have hanswered := ht.run_answered rfl (List.getElem?_eq_getElem hlt) hscript
  have hexit : step (answered .send .t3 0x84#8 st d ms t) = .next (finish (some (.err v)) (noteStatus st _)) :=
    (step_send_t3 rfl rfl hst).trans (if_neg hne)
  exact ⟨_, (run_add ((run_add hrun 4).trans hanswered) 1).trans (run_step hexit), rfl, rfl, ht.calls, rfl, rfl,
    ht.index, congrArg (· + 2) ht.epoch⟩

/-! ## READ -/

section
variable {s : State} {e : Bool}

/-- READ at V0 with a slot left writes the call's command (R112, R113). -/
theorem step_read_v0 (hb : s.busy = false) (hs : s.seq = .run (.read e) .v0) (hi : s.locals.i ≠ s.locals.n) :
    step s = .next (goto (.read e) .v1 (writeTwcr s.locals.cmd s)) :=
  (step_label hb hs (by simp [labelsOf])).trans (execRead_command hs hi)

/-- READ at V0 with no slot left returns (R112). -/
theorem step_read_v0_end (hb : s.busy = false) (hs : s.seq = .run (.read e) .v0) (hi : s.locals.i = s.locals.n) :
    step s = .next (finish (some .ok) s) :=
  (step_label hb hs (by simp [labelsOf])).trans ((turn_run hs _ _).trans (if_pos hi))

/-- READ at V2 on a named status (R112, R115). -/
theorem step_read_v2 {v : BusStatus} (hb : s.busy = false) (hs : s.seq = .run (.read e) .v2)
    (hst : decodeStatus s.twsrRd = some v) :
    step s =
      if v = s.locals.expected then .next (goto (.read e) .v3 (noteStatus s.twsrRd s))
      else .next (finish (some (.err v)) (noteStatus s.twsrRd s)) :=
  (step_label hb hs (by simp [labelsOf])).trans (execRead_status hs hst)

/-- READ at V3 fills its slot (R112). -/
theorem step_read_v3 (hb : s.busy = false) (hs : s.seq = .run (.read e) .v3) (hi : s.locals.i < s.buf.length) :
    step s = .next (goto (.read e) .v0 (advanceIndex (storeSlot s.twdr s))) :=
  (step_label hb hs (by simp [labelsOf])).trans (execRead_slot hs hi)

end

/-! ### The command and the required status of a call -/

theorem readCommand_eq (e : Bool) : readCommand e = if e then 0xC4#8 else 0x84#8 := rfl

theorem isCommand_readCommand (e : Bool) : isCommand (readCommand e) = true := by
  cases e <;> rfl

/-- The status byte that READ requires (R77, R112). -/
theorem decodeStatus_readExpected (e : Bool) :
    decodeStatus (if e then 0x50#8 else 0x58#8) = some (readExpected e) := by
  cases e <;> rfl

/-- The word of READ (R68, R69). -/
theorem decodeReq_readWord (e : Bool) : decodeReq (if e then 0x6001#16 else 0x6000#16) = .ok (.read e) := by
  cases e <;> decide

/-! ### The slots -/

/-- The first `k` received bytes, before the slots not reached yet (R112, R115). -/
def filled (ds slots : List Byte) (k : Nat) : List Byte := ds.take k ++ slots.drop k

theorem length_filled {ds slots : List Byte} {k : Nat} (hd : k ≤ ds.length) (hs : k ≤ slots.length) :
    (filled ds slots k).length = slots.length := by
  simp only [filled, List.length_append, List.length_take, List.length_drop]
  omega

/-- Filling slot `k` with byte `k`. -/
theorem filled_set {ds slots : List Byte} {k : Nat} {d : Byte} (hd : ds[k]? = some d) (hs : k < slots.length) :
    (filled ds slots k).set k d = filled ds slots (k + 1) := by
  obtain ⟨hk, -⟩ := List.getElem?_eq_some_iff.1 hd
  have hlen : (ds.take k).length = k := List.length_take_of_le hk.le
  rw [filled, filled, List.set_append_right _ _ hlen.le, hlen, Nat.sub_self, List.drop_eq_getElem_cons hs,
    List.set_cons_zero, List.take_add_one, hd, List.append_assoc]
  rfl

/-! ### The loop -/

/-- The state at V0 of an accepted READ (R112). -/
def readAccepted (e : Bool) (c : Call) (rest : List Call) (s : State) : State :=
  readSetup e (enter (.read e) .v0 (presentSlots c.buf { s with calls := rest }))

/-- READ's loop after `k` slots of the request accepted as `s₀`, filled with the first bytes of `ds`. -/
structure Reading (e : Bool) (ds : List Byte) (s₀ : State) (k : Nat) (t : State) : Prop
    extends Rows (.read e) .v0 s₀ k t where
  cmd : t.locals.cmd = readCommand e
  expected : t.locals.expected = readExpected e
  buf : t.buf = filled ds s₀.buf k

section
variable {e : Bool} {s₀ t : State} {k : Nat} {st d : Byte} {ds : List Byte} {ms : List PeripheralMove}
  (h : Reading e ds s₀ k t) (hn : s₀.locals.n = s₀.buf.length) (hk : k < s₀.buf.length)
include h hn hk

theorem Reading.step_command : step t = .next (goto (.read e) .v1 (writeTwcr (readCommand e) t)) := by
  rw [← h.cmd]
  refine step_read_v0 h.busy h.seq ?_
  rw [h.index, h.length, hn]
  exact hk.ne

/-- The command of every slot is the call's (R113). -/
theorem Reading.run_latched : ∃ u b, core.run 1 t = .next u ∧ u.pending = some (readCommand e, b) :=
  ⟨_, t.twdr, run_step (h.step_command hn hk), by simp [writeTwcr_command (isCommand_readCommand e)]⟩

theorem Reading.run_answered (hm : t.script = .complete st d :: ms) :
    core.run 3 t = .next (answered (.read e) .v2 (readCommand e) st d ms t) :=
  (Transfer.read e).run_answered (isCommand_readCommand e) hm (h.step_command hn hk)

/-- A slot with the required status is filled and leads to the next one (R112). -/
theorem Reading.run_filled (hst : decodeStatus st = some (readExpected e)) (hd : ds[k]? = some d)
    (hm : t.script = .complete st d :: ms) : ∃ u, core.run 5 t = .next u ∧ Reading e ds s₀ (k + 1) u := by
  obtain ⟨hkd, -⟩ := List.getElem?_eq_some_iff.1 hd
  have hslot : t.locals.i < t.buf.length := by
    rw [h.index, h.buf, length_filled hkd.le hk.le]
    exact hk
  have hrequired : step (answered (.read e) .v2 (readCommand e) st d ms t) =
      .next (goto (.read e) .v3 (noteStatus st _)) := (step_read_v2 rfl rfl hst).trans (if_pos h.expected.symm)
  have hstore : step (goto (.read e) .v3 (noteStatus st (answered (.read e) .v2 (readCommand e) st d ms t))) =
      .next (nextRow (.read e) .v0 (readCommand e) st d ms (storeSlot d t)) := step_read_v3 rfl rfl hslot
  refine ⟨_, (run_add (h.run_answered hn hk hm) 2).trans ((run_step hrequired).trans (run_step hstore)),
    (h.toRows.of_storeSlot d).next hm _, h.cmd, h.expected, ?_⟩
  calc t.buf.set t.locals.i d
    _ = (filled ds s₀.buf k).set k d := by rw [h.index, h.buf]
    _ = filled ds s₀.buf (k + 1) := filled_set hd hk

end

/-- READ from its request through `k` slots with the required status (R112). -/
theorem run_read_rows {s : State} {e : Bool} {dv : Byte} {c : Call} {rest : List Call} {ds : List Byte} {k : Nat}
    (hs : s.seq = .ready) (hd : s.divisor = some dv) (hb : s.busy = false) (hu : upcoming s = c :: rest)
    (hc : c.form = .word (if e then 0x6001#16 else 0x6000#16))
    (hds : ds.map (.complete (if e then 0x50#8 else 0x58#8)) <+: s.script) (hle : ds.length ≤ c.buf.length)
    (hk : k ≤ ds.length) :
    ∃ t, core.run (5 * k + 1) s = .next t ∧ Reading e ds (readAccepted e c rest s) k t := by
  have haccept : exec (.read e) (presentSlots c.buf { s with calls := rest }) = .next (readAccepted e c rest s) :=
    (turn_ready hs _ _ _).trans (accept_some (s := presentSlots c.buf { s with calls := rest }) hd _ _ _)
  have hstart : Reading e ds (readAccepted e c rest s) 0 (readAccepted e c rest s) :=
    ⟨⟨rfl, hb, rfl, rfl, rfl, rfl, rfl, rfl⟩, rfl, rfl, rfl⟩
  have hrow (j : Nat) (t : State) (hj : j < ds.length) (ht : Reading e ds (readAccepted e c rest s) j t) :
      ∃ u, core.run 5 t = .next u ∧ Reading e ds (readAccepted e c rest s) (j + 1) u :=
    ht.run_filled rfl (hj.trans_le hle) (decodeStatus_readExpected e) (List.getElem?_eq_getElem hj)
      (ht.toRows.script_cons hds (List.getElem?_eq_getElem hj))
  obtain ⟨t, hrun, ht⟩ := run_rows hstart hrow hk
  exact ⟨t, (run_step (step_request hs hb hu (request_of_word hc (decodeReq_readWord e)) haccept)).trans hrun, ht⟩

/-- Settles O57: every slot is a row of the loop, and after the last one V0 returns. -/
theorem readWhole : Obligations.ReadWhole := by
  intro s e dv c rest ds ms hs hd hb hu hc hlen hm
  have hrows {k : Nat} := run_read_rows (k := k) hs hd hb hu hc ⟨ms, hm.symm⟩ hlen.le
  refine ⟨fun k hk => ?_, ?_⟩
  · obtain ⟨t, hrun, ht⟩ := hrows (hlen ▸ hk.le)
    obtain ⟨u, b, hlatch, hp⟩ := ht.run_latched rfl hk
    exact ⟨u, b, (run_add hrun 1).trans hlatch, readCommand_eq e ▸ hp⟩
  · obtain ⟨t, hrun, ht⟩ := hrows hlen.ge
    have hend : step t = .next (finish (some .ok) t) :=
      step_read_v0_end ht.busy ht.seq (ht.index.trans ht.length.symm)
    have hbuf : t.buf = ds := ht.buf.trans (by simp [filled, readAccepted, ← hlen])
    have hscript : t.script = ms := ht.script.trans (by simp [readAccepted, hm, ← hlen])
    exact ⟨_, (run_add hrun 1).trans (run_step hend), rfl, rfl, hbuf, ht.calls, hscript, ht.fault, ht.epoch⟩

/-- Settles O58: after `ds.length` filled slots V2 returns the status of the next one, and stores nothing. -/
theorem readEarlyExit : Obligations.ReadEarlyExit := by
  intro s e dv st d v c rest ds ms hs hd hb hu hc hlt hm hst hne
  obtain ⟨t, hrun, ht⟩ := run_read_rows hs hd hb hu hc ⟨_, hm.symm⟩ hlt.le le_rfl
  have hscript : t.script = .complete st d :: ms := ht.script.trans (by simp [readAccepted, hm])
  have hbuf : t.buf = ds ++ c.buf.drop ds.length := ht.buf.trans (by simp [filled, readAccepted])
  have hanswered := ht.run_answered rfl hlt hscript
  have hexit : step (answered (.read e) .v2 (readCommand e) st d ms t) =
      .next (finish (some (.err v)) (noteStatus st _)) :=
    (step_read_v2 rfl rfl hst).trans (if_neg fun hv => hne (hv.trans ht.expected))
  exact ⟨_, (run_add ((run_add hrun 3).trans hanswered) 1).trans (run_step hexit), rfl, rfl, hbuf, ht.calls, rfl,
    congrArg (· + 2) ht.epoch⟩

end Sys2Proof.Machine
end

section
/-! SUPPORT. The statements about faults and refusals: the request before NEW, the terminal positions and their marks,
and where a step stops under the invariant. -/

namespace Sys2Proof.Machine

/-! ## Before NEW -/

/-- With no driver object a request other than NEW fails its first test (R122; log 10). -/
theorem exec_noInstance {i : Instr} {s : State} (hi : labelsOf i ≠ []) (hn : i ≠ .new) (hs : s.seq = .ready)
    (hd : s.divisor = none) : exec i s = .next (refuse .noInstance s) := by
  cases i with
  | new => exact absurd rfl hn
  | sendHeader a d =>
    refine (turn_ready hs _ _ _).trans ?_
    simp only [hd]
  | init | start | stop | send | read | decode | await => exact (turn_ready hs _ _ _).trans (accept_none hd _ _ _)
  | cmdEnable | cmdStart | cmdStop | cmdXfer | cmdXferAck => exact absurd rfl hi

/-- Settles O28: the refusal writes the mark and the position. -/
theorem noInstanceRefused : Obligations.NoInstanceRefused := fun _ _ => exec_noInstance

/-! ## The terminal positions and the marks -/

section
variable {s t : State}

theorem sequencerStep_of_faulted (hs : s.seq = .faulted) : sequencerStep s = .fault (.terminal s.fault) := by
  simp only [sequencerStep, hs]

theorem sequencerStep_of_refused (hs : s.seq = .refused) : sequencerStep s = .refused (.terminal s.refused) := by
  simp only [sequencerStep, hs]

/-- An instruction sets a mark or leaves it (R121, R123). -/
theorem Took.keeps_set_marks {i : Instr} (h : Took i s t) :
    (s.fault.isSome = true → t.fault.isSome = true) ∧ (s.refused.isSome = true → t.refused.isSome = true) := by
  cases h <;> simp

theorem sequencerStep_keeps_set_marks (h : sequencerStep s = .next t) :
    (s.fault.isSome = true → t.fault.isSome = true) ∧ (s.refused.isSome = true → t.refused.isSome = true) := by
  rcases sequencerStep_cases h with ⟨-, -, rfl⟩ | ⟨c, rest, r, -, -, -, rfl⟩ | ⟨c, rest, i, -, -, -, ht⟩ |
    ⟨op, l, -, -, ht⟩
  · exact ⟨id, id⟩
  · exact ⟨id, fun _ => rfl⟩
  · simpa using ht.keeps_set_marks
  · exact ht.keeps_set_marks
end

/-- Settles O30: a completion leaves the marks and the position, and the sequencer's step sets a mark at most and does
not start from a terminal position. -/
theorem marksNeverCleared : Obligations.MarksNeverCleared := by
  refine ⟨fun s hs hb => (step_idle hb).trans (sequencerStep_of_faulted hs),
    fun s hs hb => (step_idle hb).trans (sequencerStep_of_refused hs), fun s t hstep => ?_⟩
  obtain ⟨ms, k, ⟨-, st, d, rfl⟩ | hseq⟩ := step_cases hstep
  · exact ⟨id, id, fun hs => ⟨hs, rfl⟩, fun hs => ⟨hs, rfl⟩⟩
  · obtain ⟨hfault, hrefused⟩ := sequencerStep_keeps_set_marks hseq
    refine ⟨hfault, hrefused, fun hs => ?_, fun hs => ?_⟩
    · cases (sequencerStep_of_faulted (s := { s with script := ms, tick := k }) hs).symm.trans hseq
    · cases (sequencerStep_of_refused (s := { s with script := ms, tick := k }) hs).symm.trans hseq

/-! ## Considering a request never stops -/

section
variable {s : State}

/-- A request is accepted or refused; both are next states (R122). -/
theorem accept_answers (op : Instr) (l : Label) (setup : State → State) : ∃ t, accept op l setup s = .next t := by
  cases hd : s.divisor with
  | none => exact ⟨_, accept_none hd _ _ _⟩
  | some d => exact ⟨_, accept_some hd _ _ _⟩

theorem turn_request_answers (hs : s.seq = .ready) {op : Instr} {a : StepOutcome} {b : Label → StepOutcome}
    (ha : ∃ t, a = .next t) : ∃ t, turn op s a b = .next t := by
  rw [turn_ready hs]; exact ha

/-- In Ready every instruction answers a next state. -/
theorem exec_ready_answers (hs : s.seq = .ready) (i : Instr) : ∃ t, exec i s = .next t := by
  cases i with
  | new => exact turn_request_answers hs ⟨_, rfl⟩
  | sendHeader a dir =>
    cases hd : s.divisor with
    | none => exact ⟨_, exec_noInstance (by simp [labelsOf]) (by simp) hs hd⟩
    | some d =>
      by_cases ha : a ≤ 0x7F#8
      · exact ⟨_, execSendHeader_enter hs hd ha dir⟩
      · exact ⟨_, execSendHeader_wide (BitVec.not_le.1 ha) hs hd dir⟩
  | init | start | stop | send | read | decode | await => exact turn_request_answers hs (accept_answers _ _ _)
  | cmdEnable | cmdStart | cmdStop | cmdXfer | cmdXferAck => exact ⟨_, memWrite_twcr _ _⟩

/-- In Ready the sequencer idles, refuses the encoding, or considers the request; each answers (R21, R81). -/
theorem sequencerStep_ready_answers (hs : s.seq = .ready) : ∃ t, sequencerStep s = .next t := by
  cases hu : upcoming s with
  | nil => exact ⟨_, sequencerStep_none hs hu⟩
  | cons c rest =>
    cases hr : c.request with
    | error r => exact ⟨_, sequencerStep_refused hs hu hr⟩
    | ok i =>
      rw [sequencerStep_call hs hu hr]
      exact exec_ready_answers (by simpa using hs) i

/-! ## Where a step stops -/

/-- A second NEW with an admitted frequency (R96, R136; log 9). -/
theorem execNew_second {d v : Byte} (hs : s.seq = .run .new .f0) (hd : s.divisor = some d)
    (hv : divisorOf s.freq = .ok v) : execNew s = .refused .secondInstance := by
  refine (turn_run hs _ _).trans ?_
  simp only [hv, hd]

/-- `Stops s o`: the spec gives no step from `s`, and the model answers `o` there. In Faulted and Refused (R120, R123;
log 11), and at a second NEW with an admitted frequency (R96, R136; log 9). -/
inductive Stops : State → StepOutcome → Prop where
  | faulted {s : State} (hs : s.seq = .faulted) : Stops s (.fault (.terminal s.fault))
  | refused {s : State} (hs : s.seq = .refused) : Stops s (.refused (.terminal s.refused))
  | secondNew {s : State} {d v : Byte} (hs : s.seq = .run .new .f0) (hd : s.divisor = some d)
      (hv : divisorOf s.freq = .ok v) : Stops s (.refused .secondInstance)

/-- Under the invariant a running operation's step answers, or is the second NEW. -/
theorem exec_answers_or_stops {op : Instr} {l : Label} (h : Inv s) (hs : s.seq = .run op l) :
    (∃ t, exec op s = .next t) ∨ Stops s (exec op s) := by
  by_cases hop : op = .new
  · subst hop
    cases List.mem_singleton.1 (h.label_of_run hs)
    cases hd : s.divisor with
    | none => exact .inl (exec_answers h hs fun _ => hd)
    | some d =>
      cases hv : divisorOf s.freq with
      | error r => exact .inl ⟨_, execNew_refused hs hv⟩
      | ok v =>
        rw [show exec .new s = .refused .secondInstance from execNew_second hs hd hv]
        exact .inr (.secondNew hs hd hv)
  · exact .inl (exec_answers h hs fun hnew => absurd hnew hop)

/-- Everything a step can do under the invariant: answer a next state, or stop where the spec gives none. -/
theorem step_answers_or_stops (h : Inv s) : (∃ t, step s = .next t) ∨ Stops s (step s) := by
  cases hb : s.busy with
  | true =>
    obtain ⟨ms, k, ⟨st, d, hstep⟩ | hstep⟩ := step_busy h hb
    · exact .inl ⟨_, hstep⟩
    · exact .inl ⟨_, hstep⟩
  | false =>
    rw [step_idle hb]
    cases hs : s.seq with
    | ready => exact .inl (sequencerStep_ready_answers hs)
    | run op l =>
      rw [sequencerStep_run hs (h.label_of_run hs)]
      exact exec_answers_or_stops h hs
    | faulted =>
      rw [sequencerStep_of_faulted hs]
      exact .inr (.faulted hs)
    | refused =>
      rw [sequencerStep_of_refused hs]
      exact .inr (.refused hs)
end

/-- Settles O51: a step that does not answer is one of `Stops`, and in a terminal position the invariant gives the
mark. -/
theorem stopsOnlyWhereSpecGivesNoStep : Obligations.StopsOnlyWhereSpecGivesNoStep := by
  intro s h
  constructor
  · intro f hstep
    obtain ⟨t, ht⟩ | hstop := step_answers_or_stops h
    · cases ht.symm.trans hstep
    · rw [hstep] at hstop
      cases hstop with
      | faulted hs => exact ⟨hs, rfl, Option.isSome_iff_exists.1 (h.fault_mark.2 hs)⟩
  · intro r hstep
    obtain ⟨t, ht⟩ | hstop := step_answers_or_stops h
    · cases ht.symm.trans hstep
    · rw [hstep] at hstop
      cases hstop with
      | refused hs => exact .inl ⟨hs, rfl, Option.isSome_iff_exists.1 (h.refusal_mark.2 hs)⟩
      | secondNew hs hd hv => exact .inr ⟨hs, by simp [hd], ⟨_, hv⟩, rfl⟩

end Sys2Proof.Machine
end
